-- ==== Sys2Proof/Word.lean ====
section
/-!
DEFINITION. The word and byte types, and the plain packing of named bit fields.
A word of the part is 32 bits, a byte lane 8 bits; lane 0 is the least significant byte (section 0-4).
-/

namespace Sys2Proof

/-- A word (section 0-4): 32 bits. -/
abbrev Word := BitVec 32

/-- One byte lane of a word (section 0-4). -/
abbrev Byte := BitVec 8

/-- The word that holds the number `n`, taken in 32 bits. -/
abbrev word (n : Nat) : Word := BitVec.ofNat 32 n

end Sys2Proof
end

