-- ==== Sys2Proof/Config.lean ====
section
/-!
DEFINITION. What an implementation fixes, and the free values the spec leaves open.
-/

namespace Sys2Proof.Config

/-- Frames an ingress queue holds (R148). -/
def ingressDepth : Nat := 8

/-- Frames an egress queue holds (R150). -/
def egressDepth : Nat := 16

/-- Words of one region (section 0-4): region word addresses are 0 to 16,777,215. -/
def regionWords : Nat := 16777216

/-- What a byte of attached memory reads as when nothing has written it. DESIGN CHOICE, unsafe: the spec says only
that no reset clears attached memory (section 0-6); log entry 3. -/
def unlistedByte : Byte := 0

/-- FREE VALUE (log entry 4): whether a word that was being written when its burst was cut off by a ready timeout or
a device reset (log entries 31, 35) holds its new value (R30, R68, R121: "its old or its new value"). Applied to a fresh number each time. -/
opaque wordLands : Nat → Bool

/-- FREE VALUE (log entry 30): which of the bursts that want the shared memory pins is given them next (R71: it "affects
time only"). Applied to a fresh number each time. -/
opaque nextPins : Nat → Nat

end Sys2Proof.Config
end

