-- ==== Sys2Proof/Syntax.lean ====
section
/-!
DEFINITION. The commands of the part: one constructor of `Instr` for each row of spec/opcode_table.json, with the
operands the spec gives it. A row that is the acceptance of a frame carries the arrival port, the source ID and tag of
the header (Table 12-1) and the fields of its operand words (Tables 12-3, 12-4 and 12-8); an operand field that is wider
than its range stays a number, so that an out-of-range value reaches the rule that answers BAD_VALUE (Table 12-8 note 1).
-/

namespace Sys2Proof

/-- The four link ports (section 0-1). -/
inductive Port where
  | A | B | C | D
  deriving DecidableEq, Repr

/-- A source ID, 0 to 63 (section 1-1). -/
abbrev SourceId := Fin 64
/-- A segment number, 0 to 511 (section 1-2). -/
abbrev SegNo := Fin 512
/-- A region, 0 to 7. -/
abbrev RegionId := Fin 8
/-- A context index, 0 to 31 (section 2-4). -/
abbrev CtxId := Fin 32
/-- A ring, 0 (strongest) to 3 (weakest) (section 1-3). -/
abbrev Ring := Fin 4
/-- A requester's tag, 12 bits, echoed unchanged (Table 12-1). -/
abbrev Tag := BitVec 12

/-- The source ID and tag of a frame's header word (Table 12-1). -/
structure Hdr where
  src : SourceId
  tag : Tag
  deriving DecidableEq, Repr

/-- The stored fields of a Source Table entry (Table 1-1), which are the operands of SOURCE_WRITE. -/
structure SourceFields where
  valid : Bool
  port : Port
  ring : Ring
  manager : Bool
  alertTarget : Bool
  limit : Nat
  deriving DecidableEq, Repr

/-- The kinds of segment (Table 1-2). -/
inductive SegKind where
  | absent | direct | indirect | journal
  deriving DecidableEq, Repr

/-- The order of words in a wrapped read (Table 1-2). -/
inductive WordOrder where
  | rotate | interchange
  deriving DecidableEq, Repr

/-- The descriptor fields a SEGMENT_WRITE carries (Table 12-8), as its fields hold them. -/
structure SegOperands where
  kind : SegKind
  region : Nat
  base : Nat
  limit : Nat
  readBracket : Ring
  writeBracket : Ring
  order : WordOrder
  block : Nat
  deriving DecidableEq, Repr

/-- The clock group of a region profile (Table 6-1): class SYNC, a 32-bit bus, the divider, the parity lane present. -/
structure ClockGroup where
  sync : Bool
  wide : Bool
  divider : Nat
  parityLane : Bool
  deriving DecidableEq, Repr

/-- The timing group of a region profile (Table 6-1). -/
structure TimingGroup where
  burst : Nat
  nativeWrap : Bool
  page : Nat
  first : Nat
  hit : Nat
  monitor : Bool
  readyLimit : Nat
  deriving DecidableEq, Repr

/-- The patrol group of a region profile (Table 6-1). -/
structure PatrolGroup where
  enable : Bool
  addr : Nat
  pattern : Vector Word 4
  deriving DecidableEq, Repr

/-- What the attached device put on the bus for the word at position `index` of a read burst, where that differs from
what the memory holds: the word, and whether its parity lines agreed. An input of the part (R134, R139). -/
structure BusDeviation where
  index : Nat
  seen : Word
  parityOk : Bool
  deriving DecidableEq, Repr

/-- The commands of the part (spec/opcode_table.json), row by row. -/
inductive Instr where
  /-- DEVICE_RESET: power-on or the RESET pin (R159). -/
  | deviceReset
  /-- FRAME_ARRIVAL: the last word of a frame received at a port; `ragged`: the link delimited a frame that is not
  whole words (R147). -/
  | frameArrival (p : Port) (words : List Word) (ragged : Bool)
  /-- LINK_CREDIT: one credit from the link partner (R150). -/
  | linkCredit (p : Port)
  /-- PARTNER_CREDIT_RESTORE: a credit restore from the link partner (R150). -/
  | partnerCreditRestore (p : Port) (credits : Nat)
  /-- FRAME_SENT: the frame being sent on a port has been sent (R150). -/
  | frameSent (p : Port)
  /-- UNDECODABLE_FRAME: acceptance of a frame that no request row takes (R21, R153, R160). -/
  | undecodableFrame (p : Port) (words : List Word)
  /-- READ (R29). -/
  | read (p : Port) (h : Hdr) (seg : SegNo) (ring : Ring) (off : Nat) (len : Nat)
  /-- WRITE (R30). -/
  | write (p : Port) (h : Hdr) (seg : SegNo) (ring : Ring) (off : Nat) (len : Nat) (payload : List Word)
  /-- COMPARE_SWAP (R34). -/
  | compareSwap (p : Port) (h : Hdr) (seg : SegNo) (ring : Ring) (off : Nat) (expected : Word) (new : Word)
  /-- APPEND (R113). -/
  | append (p : Port) (h : Hdr) (seg : SegNo) (ring : Ring) (payload : List Word)
  /-- JOURNAL_RESTART (R120). -/
  | journalRestart (p : Port) (h : Hdr) (seg : SegNo) (ring : Ring) (first : Nat)
  /-- CURSOR_SET (R126). -/
  | cursorSet (p : Port) (h : Hdr) (cur : Fin 2) (seg : SegNo) (ring : Ring) (pos : Nat) (count : Nat) (size : Nat)
  /-- CURSOR_READ (R128). -/
  | cursorRead (p : Port) (h : Hdr) (cur : Fin 2)
  /-- CURSOR_WRITE (R128), the item's low and high word. -/
  | cursorWrite (p : Port) (h : Hdr) (cur : Fin 2) (low : Word) (high : Word)
  /-- CURSOR_QUERY (R127). -/
  | cursorQuery (p : Port) (h : Hdr) (cur : Fin 2)
  /-- SOURCE_WRITE (R6). -/
  | sourceWrite (p : Port) (h : Hdr) (idx : Nat) (f : SourceFields)
  /-- SOURCE_READ (R7). -/
  | sourceRead (p : Port) (h : Hdr) (idx : Nat)
  /-- SEGMENT_WRITE (R10). -/
  | segmentWrite (p : Port) (h : Hdr) (seg : Nat) (d : SegOperands)
  /-- SEGMENT_READ (R11). -/
  | segmentRead (p : Port) (h : Hdr) (seg : Nat)
  /-- PROFILE_WRITE_CLOCK (R86). -/
  | profileWriteClock (p : Port) (h : Hdr) (region : Nat) (g : ClockGroup)
  /-- PROFILE_WRITE_TIMING (R87). -/
  | profileWriteTiming (p : Port) (h : Hdr) (region : Nat) (g : TimingGroup)
  /-- PROFILE_WRITE_PATROL (R88). -/
  | profileWritePatrol (p : Port) (h : Hdr) (region : Nat) (g : PatrolGroup)
  /-- PROFILE_READ (R89). -/
  | profileRead (p : Port) (h : Hdr) (region : Nat)
  /-- REGION_COMMAND_ONLINE (R92). -/
  | regionCommandOnline (p : Port) (h : Hdr) (mask : BitVec 8)
  /-- REGION_COMMAND_OFFLINE (R94). -/
  | regionCommandOffline (p : Port) (h : Hdr) (mask : BitVec 8)
  /-- REGION_COMMAND_PARK (R97). -/
  | regionCommandPark (p : Port) (h : Hdr) (mask : BitVec 8)
  /-- REGION_COMMAND_UNPARK (R98). -/
  | regionCommandUnpark (p : Port) (h : Hdr) (mask : BitVec 8)
  /-- REGION_COMMAND_TRAIN (R99). -/
  | regionCommandTrain (p : Port) (h : Hdr) (mask : BitVec 8)
  /-- PORT_CONTROL_ENABLE (R152). -/
  | portControlEnable (p : Port) (h : Hdr) (rx : BitVec 4) (tx : BitVec 4)
  /-- PORT_CONTROL_DISABLE (R152). -/
  | portControlDisable (p : Port) (h : Hdr) (rx : BitVec 4) (tx : BitVec 4)
  /-- CHECK_CONTROL_ENABLE (R136). -/
  | checkControlEnable (p : Port) (h : Hdr)
  /-- CHECK_CONTROL_DISABLE (R136). -/
  | checkControlDisable (p : Port) (h : Hdr)
  /-- CHECK_CONTROL_INJECT (R137), the check code of Table 12-8. -/
  | checkControlInject (p : Port) (h : Hdr) (check : Nat)
  /-- PATROL_SET (R138), the interval in ms. -/
  | patrolSet (p : Port) (h : Hdr) (interval : Nat)
  /-- STATUS_READ (R158). -/
  | statusRead (p : Port) (h : Hdr)
  /-- ALERT_CONTROL_ENABLE (R156), the kind mask in the order of Table 11-2. -/
  | alertControlEnable (p : Port) (h : Hdr) (kinds : BitVec 9)
  /-- ALERT_CONTROL_DISABLE (R156). -/
  | alertControlDisable (p : Port) (h : Hdr) (kinds : BitVec 9)
  /-- ALERT_CLEAR (R156), the flag mask in the layout of Table 12-7, first word in the low half. -/
  | alertClear (p : Port) (h : Hdr) (flags : BitVec 64)
  /-- START (R154). -/
  | start (p : Port) (h : Hdr)
  /-- SOFT_RESET (R155). -/
  | softReset (p : Port) (h : Hdr)
  /-- CLEAR_CONTAINMENT (R145). -/
  | clearContainment (p : Port) (h : Hdr)
  /-- BURST_COMPLETION (R64), with what the device put on the bus other than the memory's contents. -/
  | burstCompletion (r : RegionId) (dev : List BusDeviation)
  /-- READY_TIMEOUT (R68), with the number of the burst's words the device had moved. -/
  | readyTimeout (r : RegionId) (moved : Nat)
  /-- ABANDONED_BURST_END (R66): `none`, the burst ran to its end; `some n`, its select was released by the ready limit
  after `n` words. -/
  | abandonedBurstEnd (r : RegionId) (release : Option Nat)
  /-- SETTLE_EXPIRY (R93). -/
  | settleExpiry (r : RegionId)
  /-- PATROL_INTERVAL_EXPIRY (R138). -/
  | patrolIntervalExpiry
  /-- STROBE_SAMPLE (R105): the level on one strobe-feedback input. -/
  | strobeSample (input : Fin 4) (level : Bool)
  /-- STEP_TIMER_EXPIRY (R107): the step timer of the region that holds the strobe-feedback inputs. -/
  | stepTimerExpiry
  deriving DecidableEq, Repr

end Sys2Proof
end

