-- ==== Sys2Proof/Machine/State.lean ====
section
/-!
DEFINITION. The state of the part: everything spec/ gives it, as plain data, and the state right after a device reset.
INVENTORY.md lists every field with its rule and its reset value.
-/

namespace Sys2Proof.Machine

/-! ## Statuses and the tables of the Translation Unit -/

/-- The statuses of responses (Table 12-5). -/
inductive Status where
  | ok | exhausted | compareFailed | notStarted | contained | noSource | sourceMismatch | notManager | badRequest | busy
  | noContext | noSegment | kindMismatch | bounds | ringDenied | pointerFault | indirectLoop | regionOffline
  | deviceTimeout | journalFull | journalBroken | recordTooLarge | cursorBusy | cursorUnset | wrongState | badValue
  | poisoned | selfLockout | notTrained
  deriving DecidableEq, Repr

/-- A Source Table entry as stored (Table 1-1), and whether its parity is good (R134). -/
structure SourceEntry where
  fields : SourceFields
  parityOk : Bool
  deriving DecidableEq, Repr

/-- A segment descriptor (Table 1-2). -/
structure Descriptor where
  kind : SegKind
  region : RegionId
  base : Nat
  limit : Nat
  readBracket : Ring
  writeBracket : Ring
  order : WordOrder
  block : Nat
  deriving DecidableEq, Repr

/-- A Segment Descriptor Table entry as stored, and whether its parity is good (R134). -/
structure SegmentEntry where
  desc : Descriptor
  parityOk : Bool
  deriving DecidableEq, Repr

/-! ## The Context Pool (Chapter 2) -/

/-- Context states (Table 2-5). -/
inductive CtxState where
  | free | waiting | serving | done
  deriving DecidableEq, Repr

/-- The stages of a context (Table 2-4). -/
inductive Stage where
  | link | main
  deriving DecidableEq, Repr

/-- The data requests that take a context (Table 2-1). -/
inductive ReqKind where
  | read | write | compareSwap | append | journalRestart | cursorRead | cursorWrite
  deriving DecidableEq, Repr

/-- The steps of the append sequence (Table 8-2). -/
inductive AppendStep where
  | anchorRead | headerRead | sizeRead | freshWrite | anchorWrite | recordWrite | commit
  deriving DecidableEq, Repr

/-- What a wrapped read fixes when it is resolved (R73): its order, its order block O, the block base and the start
position j. -/
structure Wrap where
  order : WordOrder
  block : Nat
  base : Nat
  start : Nat
  deriving DecidableEq, Repr

/-- One burst of a cut access (R61): its first region word address, its word count, and whether it is a native wrap
burst (R79). -/
structure Piece where
  addr : Nat
  len : Nat
  wrap : Bool
  deriving DecidableEq, Repr

/-- A context record (Table 2-4), with what Chapters 3, 5, 8 and 9 add to it. -/
structure Context where
  state : CtxState
  stage : Stage
  kind : ReqKind
  source : SourceId
  tag : Tag
  port : Port
  ring : Ring
  region : RegionId
  /-- The region word address (Table 2-4). -/
  addr : Nat
  /-- The word range [first, last) (Table 2-4). -/
  first : Nat
  last : Nat
  length : Nat
  progress : Nat
  step : AppendStep
  cursor : Fin 2
  payload : List Word
  status : Status
  /-- The result buffer; once DONE, the result words of the response. -/
  result : List Word
  /-- The order, block base and start position of a wrapped read (R73). -/
  wrap : Option Wrap
  /-- The frame's offset, kept for link completion (R43); JOURNAL_RESTART's first block (R120). -/
  opOffset : Nat
  /-- The frame's length, kept for link completion (R43). -/
  opLength : Nat
  /-- The frame's requested ring, kept for link completion (R43). -/
  opRing : Ring
  /-- A cursor step's position p, rounded position q and item size (R128). -/
  curPos : Nat
  curRounded : Nat
  curSize : Nat
  /-- The bursts left of the access whose cut is fixed (R61, R78); none before its first burst. -/
  pieces : Option (List Piece)
  /-- The words an append's access has read so far (R113). MODEL's own place for them, log entry 16. -/
  scratch : List Word
  parityOk : Bool
  deriving DecidableEq, Repr

/-- A FREE record (Table 2-4 note 2): every other field 0, the first value of its list, or empty. -/
def Context.free : Context :=
  { state := .free, stage := .link, kind := .read, source := 0, tag := 0, port := .A, ring := 0, region := 0, addr := 0,
    first := 0, last := 0, length := 0, progress := 0, step := .anchorRead, cursor := 0, payload := [], status := .ok,
    result := List.replicate 64 0, wrap := none, opOffset := 0, opLength := 0, opRing := 0, curPos := 0, curRounded := 0,
    curSize := 0, pieces := none, scratch := [], parityOk := true }

/-! ## Cursors (Chapter 9) -/

/-- A cursor record (Table 9-1). -/
structure Cursor where
  isSet : Bool
  segment : SegNo
  pos : Nat
  count : Nat
  size : Nat
  ring : Ring
  inFlight : Bool
  deriving DecidableEq, Repr

/-- An UNSET cursor (Table 9-1, last column). -/
def Cursor.unset : Cursor :=
  { isSet := false, segment := 0, pos := 0, count := 0, size := 1, ring := 3, inFlight := false }

/-! ## Regions (Chapters 4, 6 and 7) -/

/-- Region states (Table 6-3). -/
inductive RegionState where
  | offline | training | settling | online | quiescing | parked | halted
  deriving DecidableEq, Repr

/-- The pending action of a QUIESCING region (R90). -/
inductive PendingAction where
  | apply | park | offline
  deriving DecidableEq, Repr

/-- A choice among the three groups of a profile: those named in the poisoned set, or faulted (R142). -/
structure Groups where
  clock : Bool
  timing : Bool
  patrol : Bool
  deriving DecidableEq, Repr

/-- No group. -/
def Groups.none : Groups := { clock := false, timing := false, patrol := false }

/-- Who a burst belongs to: a context, or the patrol read. -/
inductive BurstOwner where
  | ctx (i : CtxId)
  | patrol
  deriving DecidableEq, Repr

/-- A burst on the bus (R57, R66): the words it moves, the write data with their byte enables, the profile fields read at
its issue (R84), its latency in device clocks (R63), and whether it has been abandoned (R66). -/
structure Burst where
  owner : BurstOwner
  addr : Nat
  len : Nat
  wrap : Bool
  write : Bool
  data : List (Word × BitVec 4)
  clock : ClockGroup
  timing : TimingGroup
  latency : Nat
  abandoned : Bool
  deriving DecidableEq, Repr

/-- A patrol read in progress (R60): address and pattern in force at its first burst, the bursts left, the words read. -/
structure PatrolRead where
  addr : Nat
  pattern : Vector Word 4
  rest : List Piece
  words : List Word
  deriving DecidableEq, Repr

/-- Lane seek states (Table 7-2). -/
inductive Seek where
  | zero
  | one
  | found (k : Nat)
  deriving DecidableEq, Repr

/-- The training record of a TRAINING region (Table 7-1): step k, seek states, step samples, and whether the step phase
is AWAITING, which is when the step timer runs. -/
structure Training where
  k : Nat
  seek : List Seek
  samples : List (Option Bool)
  awaiting : Bool
  deriving DecidableEq, Repr

/-- One region: its profile, its state and its engine (Tables 6-1, 6-3 and 7-1; R53, R58, R63, R90). -/
structure Region where
  clock : ClockGroup
  timing : TimingGroup
  patrol : PatrolGroup
  /-- The written patrol group that has not yet entered the profile (R88). -/
  written : Option PatrolGroup
  clockOk : Bool
  timingOk : Bool
  /-- The parity of the patrol group last written: of the written group while one waits to enter (R88, R89, R134). No check
  point reads the group that it will replace. -/
  patrolOk : Bool
  /-- The groups of this profile that the poisoned set names (R89, R142). -/
  poison : Groups
  state : RegionState
  action : Option PendingAction
  pendingTiming : Option TimingGroup
  /-- The running settle timer's interval in microseconds (R93). -/
  settle : Option Nat
  prior : Option RegionState
  priorAction : Option PendingAction
  queue : List CtxId
  /-- The turn pointer, as the number of queue entries before it (R58). -/
  turn : Nat
  openPage : Option Nat
  trained : Bool
  delays : List Nat
  due : Bool
  patrolRead : Option PatrolRead
  burst : Option Burst
  training : Option Training
  deriving DecidableEq, Repr

/-- A region after a device reset (Table 6-1, R90, R102). -/
def Region.reset : Region :=
  { clock := { sync := false, wide := true, divider := 1, parityLane := false },
    timing := { burst := 1, nativeWrap := false, page := 16, first := 31, hit := 15, monitor := false, readyLimit := 4095 },
    patrol := { enable := false, addr := 0, pattern := #v[0, 0, 0, 0] },
    written := none, clockOk := true, timingOk := true, patrolOk := true, poison := .none, state := .offline,
    action := none, pendingTiming := none, settle := none, prior := none, priorAction := none, queue := [], turn := 0,
    openPage := none, trained := false, delays := [0, 0, 0, 0], due := false, patrolRead := none, burst := none,
    training := none }

/-! ## Link ports (Chapter 11) -/

/-- A link signal the part sends to a partner (R148): one credit, or a credit restore. -/
inductive Signal where
  | credit
  | restore (slots : Nat)
  deriving DecidableEq, Repr

/-- One link port (Table 0-1, R147 to R152). Frames of `ingress` stand with their check word; frames of `egress` without
it, and with it once being sent (log entry 29). -/
structure PortState where
  rxOn : Bool
  txOn : Bool
  ingress : List (List Word)
  egress : List (List Word)
  delivery : List CtxId
  sending : Option (List Word)
  txCredits : Nat
  /-- The credits and restores sent to the partner, oldest first. MODEL's own record of an output, log entry 13. -/
  signals : List Signal
  deriving DecidableEq, Repr

/-- A port after a device reset, enabled or not (R159). -/
def PortState.reset (enabled : Bool) : PortState :=
  { rxOn := enabled, txOn := enabled, ingress := [], egress := [], delivery := [], sending := none, txCredits := 0,
    signals := [] }

/-- The four ports. -/
structure Ports where
  a : PortState
  b : PortState
  c : PortState
  d : PortState
  deriving DecidableEq, Repr

/-! ## Integrity Unit and Management Unit (Chapters 10 and 11) -/

/-- The device modes (Table 0-4). -/
inductive DeviceMode where
  | config | run | contained
  deriving DecidableEq, Repr

/-- The four checks (Table 10-1). -/
inductive CheckKind where
  | table | context | memory | egress
  deriving DecidableEq, Repr

/-- The four one-shot injection flags (R137). -/
structure Injection where
  table : Bool
  context : Bool
  memory : Bool
  egress : Bool
  deriving DecidableEq, Repr

/-- A fault with its detail (Tables 10-1 and 10-2). -/
inductive FaultItem where
  | source (i : SourceId)
  | segment (i : SegNo)
  | profile (r : RegionId) (g : Groups)
  | context (i : CtxId)
  | memory (r : RegionId) (a : Nat)
  | egress (p : Port) (i : Option CtxId)
  | patrol (r : RegionId) (a : Nat)
  deriving DecidableEq, Repr

/-- The containment record while its cause is not none (Table 10-2). -/
structure ContainmentRecord where
  item : FaultItem
  prior : DeviceMode
  deriving DecidableEq, Repr

/-- Attached memory: the listed bytes, strictly rising by address, none equal to what an unlisted one reads as, and the
addresses of the bytes whose stored parity is good, strictly rising. -/
structure Memory where
  cells : List Host.Cell
  parity : List Nat
  deriving DecidableEq, Repr

/-- The state of the part. -/
structure State where
  sources : Vector SourceEntry 64
  segments : Vector SegmentEntry 512
  ctxs : Vector Context 32
  counts : Vector Nat 64
  cursors : Vector Cursor 128
  regions : Vector Region 8
  /-- The region whose burst holds the shared pins of the attached memory bus (R71); none while no burst is on a bus. -/
  pins : Option RegionId
  holder : Option RegionId
  waiting : List RegionId
  ports : Ports
  accPtr : Port
  checks : Bool
  inject : Injection
  record : Option ContainmentRecord
  poisonedSources : List SourceId
  poisonedSegments : List SegNo
  failPin : Bool
  mode : DeviceMode
  /-- The 50 alert flags in the layout of Table 12-7, first word in the low half. -/
  alerts : BitVec 64
  /-- The alert flags that changed from clear to set in this event (R157). MODEL's own, log entry 22. -/
  raised : BitVec 64
  alertMask : BitVec 9
  patrolInterval : Nat
  mem : Memory
  /-- The counter Config.wordLands and Config.nextPins are applied to. MODEL's own, log entries 4 and 30. -/
  freeCount : Nat
  /-- The commands that are waiting, first in, first out. -/
  pending : List Instr
  deriving DecidableEq, Repr

/-- Why a step of the model stops with a fault. -/
inductive Fault where
  /-- Raised by BURST_COMPLETION, READY_TIMEOUT and ABANDONED_BURST_END when the burst on the region's bus names a word
  beyond region word address 16,777,215, which does not exist (section 0-4, R17). Safe: no state the part reaches has
  such a burst. -/
  | addressBeyondRegion
  deriving DecidableEq, Repr

/-- Why a step of the model refuses. -/
inductive Refusal where
  /-- Raised by Dispatch for a command that has no meaning yet; no command is left so. Safe. -/
  | notModelled (mnemonic : String)
  deriving DecidableEq, Repr

/-- The boot entry of the Source Table (R1). -/
def bootEntry : SourceEntry :=
  { fields := { valid := true, port := .A, ring := 0, manager := true, alertTarget := true, limit := 8 }, parityOk := true }

/-- Entries 1 to 63 of the Source Table after a device reset (R1). -/
def emptyEntry : SourceEntry :=
  { fields := { valid := false, port := .A, ring := 3, manager := false, alertTarget := false, limit := 1 },
    parityOk := true }

/-- A descriptor after a device reset (R8). -/
def Descriptor.reset : Descriptor :=
  { kind := .absent, region := 0, base := 0, limit := 1, readBracket := 0, writeBracket := 0, order := .rotate, block := 1 }

/-- The machine right after a device reset (R1, R8, R38, R90, R102, R124, R136, R146, R149, R154, R156, R159). -/
def State.reset : State :=
  { sources := (Vector.replicate 64 emptyEntry).set 0 bootEntry,
    segments := Vector.replicate 512 { desc := .reset, parityOk := true },
    ctxs := Vector.replicate 32 .free,
    counts := Vector.replicate 64 0,
    cursors := Vector.replicate 128 .unset,
    regions := Vector.replicate 8 .reset,
    pins := none, holder := none, waiting := [],
    ports := { a := { PortState.reset true with signals := [.restore 8] }, b := .reset false, c := .reset false,
               d := .reset false },
    accPtr := .A, checks := false,
    inject := { table := false, context := false, memory := false, egress := false },
    record := none, poisonedSources := [], poisonedSegments := [], failPin := false, mode := .config, alerts := 0,
    raised := 0, alertMask := 0, patrolInterval := 0, mem := { cells := [], parity := [] }, freeCount := 0, pending := [] }

end Sys2Proof.Machine
end

