-- ==== Sys2Proof/Machine/Flags.lean ====
section
/-!
DEFINITION. The 50 alert flags and their nine kinds (Tables 11-2 and 12-7, R156).
-/

namespace Sys2Proof.Machine

/-- The alert flags (Table 11-2): two of the device, one for each region or port of the other kinds. -/
inductive AlertFlag where
  | contained
  | furtherFault
  | patrolMismatch (r : RegionId)
  | trainDone (r : RegionId)
  | trainFailed (r : RegionId)
  | profileApplied (r : RegionId)
  | regionLost (r : RegionId)
  | frameError (p : Port)
  | overrun (p : Port)
  deriving DecidableEq, Repr

/-- The number of a port, A first. -/
def portIndex : Port → Nat
  | .A => 0
  | .B => 1
  | .C => 2
  | .D => 3

/-- The place of a flag in the two words of Table 12-7, the second word counted from 32. -/
def AlertFlag.place : AlertFlag → Nat
  | .contained => 0
  | .furtherFault => 1
  | .frameError p => 4 + portIndex p
  | .overrun p => 8 + portIndex p
  | .patrolMismatch r => 16 + r.val
  | .trainDone r => 24 + r.val
  | .trainFailed r => 32 + r.val
  | .profileApplied r => 40 + r.val
  | .regionLost r => 48 + r.val

/-- The flag as a mask of one item. -/
def AlertFlag.bit (f : AlertFlag) : BitVec 64 := 1#64 <<< f.place

/-- The flags of each kind, the kinds in the order of Table 11-2. -/
def kindFlags : Nat → BitVec 64
  | 0 => 0x0000000000000001#64
  | 1 => 0x0000000000000002#64
  | 2 => 0x0000000000FF0000#64
  | 3 => 0x00000000FF000000#64
  | 4 => 0x000000FF00000000#64
  | 5 => 0x0000FF0000000000#64
  | 6 => 0x00FF000000000000#64
  | 7 => 0x00000000000000F0#64
  | 8 => 0x0000000000000F00#64
  | _ => 0

/-- The flags of the kinds that a kind mask enables (R156). -/
def enabledFlags (mask : BitVec 9) : BitVec 64 :=
  [0, 1, 2, 3, 4, 5, 6, 7, 8].foldl (fun acc k => if mask.getLsbD k then acc ||| kindFlags k else acc) 0

/-- Sets an alert flag; a flag set again while set stays set, and only a change from clear to set is noted for the offer
round (R156, R157). -/
def State.raise (s : State) (f : AlertFlag) : State :=
  { s with alerts := s.alerts ||| f.bit, raised := s.raised ||| (f.bit &&& ~~~s.alerts) }

/-- Whether an alert flag is set. -/
def State.alert (s : State) (f : AlertFlag) : Bool := s.alerts.getLsbD f.place

end Sys2Proof.Machine
end

