-- ==== Sys2Proof/WellFormed.lean ====
section
/-!
DEFINITION. Which commands are well formed: each numeric operand lies in the field that carries it in its frame
(Tables 12-3, 12-4 and 12-8), and a data request's lengths and payload counts are those that check 1 passes
(R21, R110, R125). A frame outside these is the row UNDECODABLE_FRAME.
-/

namespace Sys2Proof

/-- The item sizes of a cursor (Table 9-1). -/
def isItemSize (n : Nat) : Bool := n == 1 || n == 2 || n == 4 || n == 8

/-- The fields of SOURCE_WRITE fit their bits (Table 12-8). -/
def SourceFields.fits (f : SourceFields) : Bool := decide (f.limit < 16)

/-- The fields of SEGMENT_WRITE fit their bits (Table 12-8). -/
def SegOperands.fits (d : SegOperands) : Bool :=
  decide (d.region < 16) && decide (d.base < 16777216) && decide (d.limit < 2097152) && decide (d.block < 32)

/-- The fields of the clock group fit their bits (Table 12-8). -/
def ClockGroup.fits (g : ClockGroup) : Bool := decide (g.divider < 16)

/-- The fields of the timing group fit their bits (Table 12-8). -/
def TimingGroup.fits (g : TimingGroup) : Bool :=
  decide (g.burst < 32) && decide (g.page < 2048) && decide (g.first < 32) && decide (g.hit < 16) &&
    decide (g.readyLimit < 4096)

/-- The fields of the patrol group fit their bits (Table 12-8). -/
def PatrolGroup.fits (g : PatrolGroup) : Bool := decide (g.addr < 16777216)

/-- A command whose operands the part's frames and inputs can carry. -/
def Instr.wf : Instr → Bool
  | .deviceReset => true
  | .frameArrival _ _ _ => true
  | .linkCredit _ => true
  | .partnerCreditRestore _ _ => true
  | .frameSent _ => true
  | .undecodableFrame _ ws => decide (3 ≤ ws.length) && decide (ws.length ≤ 70)
  | .read _ _ _ _ off len => decide (off < 16777216) && decide (1 ≤ len) && decide (len ≤ 64)
  | .write _ _ _ _ off len pl =>
    decide (off < 16777216) && decide (1 ≤ len) && decide (len ≤ 64) && decide (pl.length = len)
  | .compareSwap _ _ _ _ off _ _ => decide (off < 16777216)
  | .append _ _ _ _ pl => decide (1 ≤ pl.length) && decide (pl.length ≤ 60)
  | .journalRestart _ _ _ _ f => decide (f < 16777216)
  | .cursorSet _ _ _ _ _ pos count size => decide (pos < 8388608) && decide (count < 65536) && isItemSize size
  | .cursorRead _ _ _ => true
  | .cursorWrite _ _ _ _ _ => true
  | .cursorQuery _ _ _ => true
  | .sourceWrite _ _ idx f => decide (idx < 256) && f.fits
  | .sourceRead _ _ idx => decide (idx < 256)
  | .segmentWrite _ _ seg d => decide (seg < 1024) && d.fits
  | .segmentRead _ _ seg => decide (seg < 1024)
  | .profileWriteClock _ _ r g => decide (r < 16) && g.fits
  | .profileWriteTiming _ _ r g => decide (r < 16) && g.fits
  | .profileWritePatrol _ _ r g => decide (r < 16) && g.fits
  | .profileRead _ _ r => decide (r < 16)
  | .regionCommandOnline _ _ _ => true
  | .regionCommandOffline _ _ _ => true
  | .regionCommandPark _ _ _ => true
  | .regionCommandUnpark _ _ _ => true
  | .regionCommandTrain _ _ _ => true
  | .portControlEnable _ _ _ _ => true
  | .portControlDisable _ _ _ _ => true
  | .checkControlEnable _ _ => true
  | .checkControlDisable _ _ => true
  | .checkControlInject _ _ c => decide (c < 8)
  | .patrolSet _ _ v => decide (v < 1024)
  | .statusRead _ _ => true
  | .alertControlEnable _ _ _ => true
  | .alertControlDisable _ _ _ => true
  | .alertClear _ _ _ => true
  | .start _ _ => true
  | .softReset _ _ => true
  | .clearContainment _ _ => true
  | .burstCompletion _ dev => dev.all fun d => decide (d.index < 16)
  | .readyTimeout _ moved => decide (moved < 16)
  | .abandonedBurstEnd _ release => release.all fun n => decide (n < 16)
  | .settleExpiry _ => true
  | .patrolIntervalExpiry => true
  | .strobeSample _ _ => true
  | .stepTimerExpiry => true

end Sys2Proof
end

