-- ==== Sys2Proof/Decode.lean ====
section
/-!
DEFINITION. From frame words to commands and back, from Chapter 12, and the check word of R147.
No row of the opcode table gives bits of its own, so `decodeTableWord` spells none; what the part decodes are the frames
that its Acceptance Unit takes, and `frameInstr` names the row that takes each.
-/

namespace Sys2Proof

/-! ## Fields of a word -/

/-- Bits `lo` to `lo + n - 1` of a word, as a number (section 12, "bits a-b"). -/
def field (w : Word) (lo n : Nat) : Nat := w.toNat / 2 ^ lo % 2 ^ n

/-- Bit `k` of a word. -/
def flagBit (w : Word) (k : Nat) : Bool := field w k 1 == 1

/-- 1 or 0, for a one-bit field. -/
def bitNat (b : Bool) : Nat := if b then 1 else 0

/-- The port of code 0 to 3 (Table 12-8). -/
def Port.ofCode : Nat → Port
  | 0 => .A
  | 1 => .B
  | 2 => .C
  | _ => .D

/-- The code of a port (Table 12-8). -/
def Port.code : Port → Nat
  | .A => 0
  | .B => 1
  | .C => 2
  | .D => 3

/-- The segment kind of code 0 to 3 (Table 12-8). -/
def SegKind.ofCode : Nat → SegKind
  | 0 => .absent
  | 1 => .direct
  | 2 => .indirect
  | _ => .journal

/-- The code of a segment kind (Table 12-8). -/
def SegKind.code : SegKind → Nat
  | .absent => 0
  | .direct => 1
  | .indirect => 2
  | .journal => 3

/-- The word order of a bit: 0 ROTATE, 1 INTERCHANGE (Table 12-8). -/
def WordOrder.ofBool (b : Bool) : WordOrder := if b then .interchange else .rotate

/-- Whether a word order is INTERCHANGE (Table 12-8). -/
def WordOrder.isInterchange : WordOrder → Bool
  | .rotate => false
  | .interchange => true

/-! ## The check word (R147) -/

/-- One step of the CRC-16 with generator x^16 + x^12 + x^5 + 1, for one message bit (R147). -/
def crcBit (c : BitVec 16) (b : Bool) : BitVec 16 :=
  if (c.msb ^^ b) then (c <<< 1) ^^^ 0x1021#16 else c <<< 1

/-- The CRC over one byte, most significant bit first (R147). -/
def crcByte (c : BitVec 16) (b : Byte) : BitVec 16 :=
  [7, 6, 5, 4, 3, 2, 1, 0].foldl (fun c k => crcBit c (b.getLsbD k)) c

/-- The CRC over one word, lane 0 first (R147). -/
def crcWord (c : BitVec 16) (w : Word) : BitVec 16 :=
  [0, 1, 2, 3].foldl (fun c lane => crcByte c (w.extractLsb' (8 * lane) 8)) c

/-- The CRC-16 of the words of a frame before its check word: initial value all ones, no final inversion (R147). -/
def crc (ws : List Word) : BitVec 16 := ws.foldl crcWord 0xFFFF#16

/-- The check word: the CRC in the low half, the upper half 0 (R147). -/
def checkWord (ws : List Word) : Word := (crc ws).setWidth 32

/-- The words of a frame with its check word behind them (R147). -/
def withCheck (ws : List Word) : List Word := ws ++ [checkWord ws]

/-- The length that the first word of a frame declares (Table 12-1). -/
def declaredLength (ws : List Word) : Nat := field (ws.headD 0) 0 7

/-- Step 2 of R147: a frame of whole words, 3 to 70 of them, as many as it declares, whose check word matches in its low
half. -/
def goodFrame (ws : List Word) (ragged : Bool) : Bool :=
  !ragged && decide (3 ≤ ws.length) && decide (ws.length ≤ 70) && (declaredLength ws == ws.length) &&
    ((ws.getLastD 0).setWidth 16 == crc ws.dropLast)

/-! ## The header word (Table 12-1) -/

/-- The class of a frame: 0 DATA, 1 MANAGEMENT, 2 RESPONSE, 3 ALERT. -/
def frameClass (w : Word) : Nat := field w 7 2

/-- The request code of a frame (Table 12-2). -/
def frameCode (w : Word) : Nat := field w 9 5

/-- The source ID and tag of a frame. -/
def frameHdr (w : Word) : Hdr := { src := Fin.ofNat 64 (field w 14 6), tag := BitVec.ofNat 12 (field w 20 12) }

/-- A header word of Table 12-1. -/
def headerWord (len cls code : Nat) (h : Hdr) : Word :=
  word (len + cls * 128 + code * 512 + h.src.val * 16384 + h.tag.toNat * 1048576)

/-! ## Data frames (Tables 12-2 to 12-4, check 1) -/

/-- The segment of operand word A. -/
def segOf (a : Word) : SegNo := Fin.ofNat 512 (field a 0 9)
/-- The requested ring of operand word A. -/
def ringOf (a : Word) : Ring := Fin.ofNat 4 (field a 9 2)
/-- The length of operand word A. -/
def lenOf (a : Word) : Nat := field a 16 7
/-- The cursor index of operand word C; 2 and 3 fail check 1 (R161). -/
def cursorOf (a : Word) : Option (Fin 2) := if h : field a 12 2 < 2 then some ⟨field a 12 2, h⟩ else none

/-- READ: two operand words, no payload, length 1 to 64 (R21). -/
def decodeRead (p : Port) (h : Hdr) : List Word → Option Instr
  | [a, o] => if 1 ≤ lenOf a ∧ lenOf a ≤ 64 then some (.read p h (segOf a) (ringOf a) (field o 0 24) (lenOf a)) else none
  | _ => none

/-- WRITE: two operand words, length 1 to 64, a payload of that many words (R21). -/
def decodeWrite (p : Port) (h : Hdr) : List Word → Option Instr
  | a :: o :: pl =>
    if 1 ≤ lenOf a ∧ lenOf a ≤ 64 ∧ pl.length = lenOf a then
      some (.write p h (segOf a) (ringOf a) (field o 0 24) (lenOf a) pl)
    else none
  | _ => none

/-- COMPARE_SWAP: two operand words, then the expected and the new word (R21). -/
def decodeCompareSwap (p : Port) (h : Hdr) : List Word → Option Instr
  | [a, o, e, n] => some (.compareSwap p h (segOf a) (ringOf a) (field o 0 24) e n)
  | _ => none

/-- APPEND: one operand word, 1 to 60 record words (R110). -/
def decodeAppend (p : Port) (h : Hdr) : List Word → Option Instr
  | a :: pl => if 1 ≤ pl.length ∧ pl.length ≤ 60 then some (.append p h (segOf a) (ringOf a) pl) else none
  | _ => none

/-- JOURNAL_RESTART: two operand words, no payload (R110). -/
def decodeJournalRestart (p : Port) (h : Hdr) : List Word → Option Instr
  | [a, f] => some (.journalRestart p h (segOf a) (ringOf a) (field f 0 24))
  | _ => none

/-- CURSOR_SET: three operand words, no payload, an item size of 1, 2, 4 or 8 (R125). -/
def decodeCursorSet (p : Port) (h : Hdr) : List Word → Option Instr
  | [a, o, n] =>
    if isItemSize (field a 24 4) then
      (cursorOf a).map fun c => .cursorSet p h c (segOf a) (ringOf a) (field o 0 23) (field n 0 16) (field a 24 4)
    else none
  | _ => none

/-- CURSOR_READ: one operand word, no payload (R125). -/
def decodeCursorRead (p : Port) (h : Hdr) : List Word → Option Instr
  | [a] => (cursorOf a).map fun c => .cursorRead p h c
  | _ => none

/-- CURSOR_WRITE: one operand word, two payload words (R125). -/
def decodeCursorWrite (p : Port) (h : Hdr) : List Word → Option Instr
  | [a, lo, hi] => (cursorOf a).map fun c => .cursorWrite p h c lo hi
  | _ => none

/-- CURSOR_QUERY: one operand word, no payload (R125). -/
def decodeCursorQuery (p : Port) (h : Hdr) : List Word → Option Instr
  | [a] => (cursorOf a).map fun c => .cursorQuery p h c
  | _ => none

/-- Check 1 for a DATA frame of the given request code (Table 12-2, R21): the row that takes it, or none. -/
def decodeData (p : Port) (h : Hdr) (code : Nat) (body : List Word) : Option Instr :=
  match code with
  | 1 => decodeRead p h body
  | 2 => decodeWrite p h body
  | 3 => decodeCompareSwap p h body
  | 4 => decodeAppend p h body
  | 5 => decodeJournalRestart p h body
  | 8 => decodeCursorSet p h body
  | 9 => decodeCursorRead p h body
  | 10 => decodeCursorWrite p h body
  | 11 => decodeCursorQuery p h body
  | _ => none

/-! ## Management frames (Tables 12-2 and 12-8, admission check 1) -/

/-- The stored fields of the SOURCE_WRITE word. -/
def sourceFieldsOf (a : Word) : SourceFields :=
  { valid := flagBit a 8, port := .ofCode (field a 9 2), ring := Fin.ofNat 4 (field a 11 2), manager := flagBit a 13,
    alertTarget := flagBit a 14, limit := field a 16 4 }

/-- The descriptor fields of the three SEGMENT_WRITE words. -/
def segOperandsOf (a b c : Word) : SegOperands :=
  { kind := .ofCode (field a 12 2), region := field a 16 4, readBracket := Fin.ofNat 4 (field a 20 2),
    writeBracket := Fin.ofNat 4 (field a 22 2), order := .ofBool (flagBit a 24), block := field a 25 5,
    base := field b 0 24, limit := field c 0 21 }

/-- The clock group of PROFILE_WRITE's word 2. -/
def clockOf (b : Word) : ClockGroup :=
  { sync := flagBit b 0, wide := flagBit b 1, divider := field b 4 4, parityLane := flagBit b 8 }

/-- The timing group of PROFILE_WRITE's words 2 and 3. -/
def timingOf (b c : Word) : TimingGroup :=
  { burst := field b 0 5, nativeWrap := flagBit b 5, page := field b 8 11, first := field b 20 5, hit := field b 25 4,
    monitor := flagBit c 0, readyLimit := field c 4 12 }

/-- The patrol group of PROFILE_WRITE's words 2 to 7. -/
def patrolOf (b c d e f g : Word) : PatrolGroup :=
  { enable := flagBit b 0, addr := field c 0 24, pattern := #v[d, e, f, g] }

/-- PROFILE_WRITE: the group field fixes how many operand words there are (R160). A group field of 3 names no row. -/
def decodeProfileWrite (p : Port) (h : Hdr) : List Word → Option Instr
  | [a, b] => if field a 4 2 = 0 then some (.profileWriteClock p h (field a 0 4) (clockOf b)) else none
  | [a, b, c] => if field a 4 2 = 1 then some (.profileWriteTiming p h (field a 0 4) (timingOf b c)) else none
  | [a, b, c, d, e, f, g] =>
    if field a 4 2 = 2 then some (.profileWritePatrol p h (field a 0 4) (patrolOf b c d e f g)) else none
  | _ => none

/-- REGION_COMMAND: one operand word; action codes 5 to 7 name no row. -/
def decodeRegionCommand (p : Port) (h : Hdr) : List Word → Option Instr
  | [a] =>
    let mask := BitVec.ofNat 8 (field a 8 8)
    match field a 0 3 with
    | 0 => some (.regionCommandOnline p h mask)
    | 1 => some (.regionCommandOffline p h mask)
    | 2 => some (.regionCommandPark p h mask)
    | 3 => some (.regionCommandUnpark p h mask)
    | 4 => some (.regionCommandTrain p h mask)
    | _ => none
  | _ => none

/-- PORT_CONTROL: one operand word; action codes 2 and 3 name no row. -/
def decodePortControl (p : Port) (h : Hdr) : List Word → Option Instr
  | [a] =>
    let rx := BitVec.ofNat 4 (field a 8 4)
    let tx := BitVec.ofNat 4 (field a 12 4)
    match field a 0 2 with
    | 0 => some (.portControlEnable p h rx tx)
    | 1 => some (.portControlDisable p h rx tx)
    | _ => none
  | _ => none

/-- CHECK_CONTROL: one operand word; action code 3 names no row. -/
def decodeCheckControl (p : Port) (h : Hdr) : List Word → Option Instr
  | [a] =>
    match field a 0 2 with
    | 0 => some (.checkControlEnable p h)
    | 1 => some (.checkControlDisable p h)
    | 2 => some (.checkControlInject p h (field a 4 3))
    | _ => none
  | _ => none

/-- ALERT_CONTROL: one operand word; action codes 2 and 3 name no row. -/
def decodeAlertControl (p : Port) (h : Hdr) : List Word → Option Instr
  | [a] =>
    match field a 0 2 with
    | 0 => some (.alertControlEnable p h (BitVec.ofNat 9 (field a 8 9)))
    | 1 => some (.alertControlDisable p h (BitVec.ofNat 9 (field a 8 9)))
    | _ => none
  | _ => none

/-- Admission check 1 for a MANAGEMENT frame of the given request code (Table 12-2, R153): the row that takes it, or
none. -/
def decodeManage (p : Port) (h : Hdr) (code : Nat) (body : List Word) : Option Instr :=
  match code, body with
  | 1, [a] => some (.sourceWrite p h (field a 0 8) (sourceFieldsOf a))
  | 2, [a] => some (.sourceRead p h (field a 0 8))
  | 3, [a, b, c] => some (.segmentWrite p h (field a 0 10) (segOperandsOf a b c))
  | 4, [a] => some (.segmentRead p h (field a 0 10))
  | 5, ws => decodeProfileWrite p h ws
  | 6, [a] => some (.profileRead p h (field a 0 4))
  | 7, ws => decodeRegionCommand p h ws
  | 8, ws => decodePortControl p h ws
  | 9, ws => decodeCheckControl p h ws
  | 10, [a] => some (.patrolSet p h (field a 0 10))
  | 11, [_] => some (.statusRead p h)
  | 12, ws => decodeAlertControl p h ws
  | 13, [a, b] => some (.alertClear p h (BitVec.ofNat 64 (a.toNat + b.toNat * 4294967296)))
  | 14, [_] => some (.start p h)
  | 15, [_] => some (.softReset p h)
  | 16, [_] => some (.clearContainment p h)
  | _, _ => none

/-- A MANAGEMENT frame that admission check 1 passes although no row names its action or group: one whose action code
is not listed, in a frame of the request's word count, or a PROFILE_WRITE of group 3, whose word count is not judged
(Table 12-8 note 1, R160). It is answered BAD_VALUE once admitted (R85, R91, R136, R152, R156). -/
def unlistedAction (code : Nat) (body : List Word) : Bool :=
  match code, body with
  | 5, a :: _ => field a 4 2 == 3
  | 7, [a] => decide (5 ≤ field a 0 3)
  | 8, [a] => decide (2 ≤ field a 0 2)
  | 9, [a] => decide (3 ≤ field a 0 2)
  | 12, [a] => decide (2 ≤ field a 0 2)
  | _, _ => false

/-- The operand and payload words of a frame: all but the header and the check word (R160). -/
def frameBody (ws : List Word) : List Word := ws.tail.dropLast

/-- The row that takes a frame from the ingress queue of port `p` at its acceptance. -/
def frameInstr (p : Port) (ws : List Word) : Instr :=
  let hd := ws.headD 0
  match frameClass hd with
  | 0 => (decodeData p (frameHdr hd) (frameCode hd) (frameBody ws)).getD (.undecodableFrame p ws)
  | 1 => (decodeManage p (frameHdr hd) (frameCode hd) (frameBody ws)).getD (.undecodableFrame p ws)
  | _ => .undecodableFrame p ws

/-! ## The encoder -/

/-- Operand word A of Table 12-4. -/
def wordA (seg : SegNo) (ring : Ring) (len : Nat) : Word := word (seg.val + ring.val * 512 + len * 65536)

/-- Operand word C of Table 12-4. -/
def wordC (cur : Fin 2) : Word := word (cur.val * 4096)

/-- The word 1 of CURSOR_SET, which carries the fields of A and of C (Table 12-4 note 1). -/
def wordAC (seg : SegNo) (ring : Ring) (cur : Fin 2) (size : Nat) : Word :=
  word (seg.val + ring.val * 512 + cur.val * 4096 + size * 16777216)

/-- The SOURCE_WRITE word of Table 12-8, with the count bits 20-23 of a SOURCE_READ result (Table 12-9). -/
def sourceWord (idx : Nat) (f : SourceFields) (count : Nat) : Word :=
  word (idx + bitNat f.valid * 256 + f.port.code * 512 + f.ring.val * 2048 + bitNat f.manager * 8192 +
    bitNat f.alertTarget * 16384 + f.limit * 65536 + count * 1048576)

/-- The first SEGMENT_WRITE word of Table 12-8. -/
def segmentWord (seg : Nat) (d : SegOperands) : Word :=
  word (seg + d.kind.code * 4096 + d.region * 65536 + d.readBracket.val * 1048576 + d.writeBracket.val * 4194304 +
    bitNat d.order.isInterchange * 16777216 + d.block * 33554432)

/-- The clock fields in the CLOCK word 2 layout, as a number (Table 12-8). -/
def clockNat (g : ClockGroup) : Nat :=
  bitNat g.sync + bitNat g.wide * 2 + g.divider * 16 + bitNat g.parityLane * 256

/-- TIMING word 2 of Table 12-8. -/
def timingWord2 (g : TimingGroup) : Word :=
  word (g.burst + bitNat g.nativeWrap * 32 + g.page * 256 + g.first * 1048576 + g.hit * 33554432)

/-- TIMING word 3 of Table 12-8. -/
def timingWord3 (g : TimingGroup) : Word := word (bitNat g.monitor + g.readyLimit * 16)

/-- The six PATROL words 2 to 7 of Table 12-8. -/
def patrolWords (g : PatrolGroup) : List Word := word (bitNat g.enable) :: word g.addr :: g.pattern.toList

/-- A frame of the given class and request code, with its declared length and check word. -/
def buildFrame (cls code : Nat) (h : Hdr) (body : List Word) : List Word :=
  withCheck (headerWord (body.length + 2) cls code h :: body)

/-- One operand word with an action code and two masks, as REGION_COMMAND, PORT_CONTROL and ALERT_CONTROL carry them. -/
def actionWord (action low high : Nat) : Word := word (action + low * 256 + high * 4096)

/-- The frame of a command that is the acceptance of a frame; none for the other commands. -/
def frameWords : Instr → Option (List Word)
  | .undecodableFrame _ ws => some ws
  | .read _ h seg ring off len => some (buildFrame 0 1 h [wordA seg ring len, word off])
  | .write _ h seg ring off len pl => some (buildFrame 0 2 h (wordA seg ring len :: word off :: pl))
  | .compareSwap _ h seg ring off e n => some (buildFrame 0 3 h [wordA seg ring 0, word off, e, n])
  | .append _ h seg ring pl => some (buildFrame 0 4 h (wordA seg ring 0 :: pl))
  | .journalRestart _ h seg ring f => some (buildFrame 0 5 h [wordA seg ring 0, word f])
  | .cursorSet _ h cur seg ring pos count size =>
    some (buildFrame 0 8 h [wordAC seg ring cur size, word pos, word count])
  | .cursorRead _ h cur => some (buildFrame 0 9 h [wordC cur])
  | .cursorWrite _ h cur lo hi => some (buildFrame 0 10 h [wordC cur, lo, hi])
  | .cursorQuery _ h cur => some (buildFrame 0 11 h [wordC cur])
  | .sourceWrite _ h idx f => some (buildFrame 1 1 h [sourceWord idx f 0])
  | .sourceRead _ h idx => some (buildFrame 1 2 h [word idx])
  | .segmentWrite _ h seg d => some (buildFrame 1 3 h [segmentWord seg d, word d.base, word d.limit])
  | .segmentRead _ h seg => some (buildFrame 1 4 h [word seg])
  | .profileWriteClock _ h r g => some (buildFrame 1 5 h [word r, word (clockNat g)])
  | .profileWriteTiming _ h r g => some (buildFrame 1 5 h [word (r + 16), timingWord2 g, timingWord3 g])
  | .profileWritePatrol _ h r g => some (buildFrame 1 5 h (word (r + 32) :: patrolWords g))
  | .profileRead _ h r => some (buildFrame 1 6 h [word r])
  | .regionCommandOnline _ h m => some (buildFrame 1 7 h [actionWord 0 m.toNat 0])
  | .regionCommandOffline _ h m => some (buildFrame 1 7 h [actionWord 1 m.toNat 0])
  | .regionCommandPark _ h m => some (buildFrame 1 7 h [actionWord 2 m.toNat 0])
  | .regionCommandUnpark _ h m => some (buildFrame 1 7 h [actionWord 3 m.toNat 0])
  | .regionCommandTrain _ h m => some (buildFrame 1 7 h [actionWord 4 m.toNat 0])
  | .portControlEnable _ h rx tx => some (buildFrame 1 8 h [actionWord 0 rx.toNat tx.toNat])
  | .portControlDisable _ h rx tx => some (buildFrame 1 8 h [actionWord 1 rx.toNat tx.toNat])
  | .checkControlEnable _ h => some (buildFrame 1 9 h [word 0])
  | .checkControlDisable _ h => some (buildFrame 1 9 h [word 1])
  | .checkControlInject _ h c => some (buildFrame 1 9 h [word (2 + c * 16)])
  | .patrolSet _ h v => some (buildFrame 1 10 h [word v])
  | .statusRead _ h => some (buildFrame 1 11 h [0])
  | .alertControlEnable _ h k => some (buildFrame 1 12 h [actionWord 0 k.toNat 0])
  | .alertControlDisable _ h k => some (buildFrame 1 12 h [actionWord 1 k.toNat 0])
  | .alertClear _ h m => some (buildFrame 1 13 h [m.extractLsb' 0 32, m.extractLsb' 32 32])
  | .start _ h => some (buildFrame 1 14 h [0])
  | .softReset _ h => some (buildFrame 1 15 h [0])
  | .clearContainment _ h => some (buildFrame 1 16 h [0])
  | .deviceReset => none
  | .frameArrival _ _ _ => none
  | .linkCredit _ => none
  | .partnerCreditRestore _ _ => none
  | .frameSent _ => none
  | .burstCompletion _ _ => none
  | .readyTimeout _ _ => none
  | .abandonedBurstEnd _ _ => none
  | .settleExpiry _ => none
  | .patrolIntervalExpiry => none
  | .strobeSample _ _ => none
  | .stepTimerExpiry => none

/-- The port a frame's acceptance happens on; none for a command that is no acceptance. -/
def Instr.acceptPort : Instr → Option Port
  | .undecodableFrame p _ => some p
  | .read p _ _ _ _ _ => some p
  | .write p _ _ _ _ _ _ => some p
  | .compareSwap p _ _ _ _ _ _ => some p
  | .append p _ _ _ _ => some p
  | .journalRestart p _ _ _ _ => some p
  | .cursorSet p _ _ _ _ _ _ _ => some p
  | .cursorRead p _ _ => some p
  | .cursorWrite p _ _ _ _ => some p
  | .cursorQuery p _ _ => some p
  | .sourceWrite p _ _ _ => some p
  | .sourceRead p _ _ => some p
  | .segmentWrite p _ _ _ => some p
  | .segmentRead p _ _ => some p
  | .profileWriteClock p _ _ _ => some p
  | .profileWriteTiming p _ _ _ => some p
  | .profileWritePatrol p _ _ _ => some p
  | .profileRead p _ _ => some p
  | .regionCommandOnline p _ _ => some p
  | .regionCommandOffline p _ _ => some p
  | .regionCommandPark p _ _ => some p
  | .regionCommandUnpark p _ _ => some p
  | .regionCommandTrain p _ _ => some p
  | .portControlEnable p _ _ _ => some p
  | .portControlDisable p _ _ _ => some p
  | .checkControlEnable p _ => some p
  | .checkControlDisable p _ => some p
  | .checkControlInject p _ _ => some p
  | .patrolSet p _ _ => some p
  | .statusRead p _ => some p
  | .alertControlEnable p _ _ => some p
  | .alertControlDisable p _ _ => some p
  | .alertClear p _ _ => some p
  | .start p _ => some p
  | .softReset p _ => some p
  | .clearContainment p _ => some p
  | .deviceReset => none
  | .frameArrival _ _ _ => none
  | .linkCredit _ => none
  | .partnerCreditRestore _ _ => none
  | .frameSent _ => none
  | .burstCompletion _ _ => none
  | .readyTimeout _ _ => none
  | .abandonedBurstEnd _ _ => none
  | .settleExpiry _ => none
  | .patrolIntervalExpiry => none
  | .strobeSample _ _ => none
  | .stepTimerExpiry => none

/-- The command that a word spells by the opcode table's own bits: no row of the table gives any. -/
def decodeTableWord (_nbits _w : Nat) : Option Instr := none

end Sys2Proof
end

