-- ==== Sys2Proof/Machine/Memory.lean ====
section
/-!
DEFINITION. Attached memory: one canonical list of bytes over the eight regions, one canonical list of the bytes whose
stored parity is good, and the word accesses built from byte lanes (sections 0-4 and 12-5, R62, R134).
-/

namespace Sys2Proof.Machine

/-- The byte address of lane `lane` of region word address `a` of region `r` (section 0-4): each region spans 2^24 words
of 4 lanes. -/
def byteAddr (r : RegionId) (a lane : Nat) : Nat := r.val * 67108864 + a * 4 + lane

/-! ## Bytes -/

/-- The listed byte of an address, or what an unlisted address reads as. -/
def readCells : List Host.Cell → Nat → Byte
  | [], _ => Config.unlistedByte
  | (k, b) :: rest, a => if k = a then b else readCells rest a

/-- Drops the entry of an address. -/
def eraseCell : List Host.Cell → Nat → List Host.Cell
  | [], _ => []
  | (k, b) :: rest, a => if k = a then rest else (k, b) :: eraseCell rest a

/-- Puts an entry at its place in a rising list. -/
def insertCell : List Host.Cell → Nat → Byte → List Host.Cell
  | [], a, v => [(a, v)]
  | (k, b) :: rest, a, v =>
    if k = a then (a, v) :: rest
    else if a < k then (a, v) :: (k, b) :: rest
    else (k, b) :: insertCell rest a v

/-- Writes a byte: a byte equal to what an unlisted address reads as is not listed. -/
def writeCells (l : List Host.Cell) (a : Nat) (v : Byte) : List Host.Cell :=
  if v = Config.unlistedByte then eraseCell l a else insertCell l a v

/-- Puts an address into a rising list. -/
def insertAddr : List Nat → Nat → List Nat
  | [], a => [a]
  | k :: rest, a => if k = a then k :: rest else if a < k then a :: k :: rest else k :: insertAddr rest a

/-- Takes an address out of a list. -/
def eraseAddr : List Nat → Nat → List Nat
  | [], _ => []
  | k :: rest, a => if k = a then rest else k :: eraseAddr rest a

/-- The list rises strictly by address, above `lo` when one is given. -/
def risesFrom : Option Nat → List Nat → Bool
  | _, [] => true
  | none, k :: rest => risesFrom (some k) rest
  | some lo, k :: rest => decide (lo < k) && risesFrom (some k) rest

/-- The canonical form of attached memory: both lists strictly rising, and no listed byte equal to the unlisted one. -/
def Memory.wf (m : Memory) : Bool :=
  risesFrom none (m.cells.map Prod.fst) && m.cells.all (fun c => c.2 != Config.unlistedByte) && risesFrom none m.parity

/-- The byte stored at a byte address. -/
def Memory.byte (m : Memory) (a : Nat) : Byte := readCells m.cells a

/-- Whether the byte stored at a byte address carries good parity (R134). -/
def Memory.parityAt (m : Memory) (a : Nat) : Bool := m.parity.contains a

/-- Writes one byte, with its parity when the region drives its parity line, and with none otherwise (R134). -/
def Memory.setByte (m : Memory) (a : Nat) (v : Byte) (withParity : Bool) : Memory :=
  { cells := writeCells m.cells a v,
    parity := if withParity then insertAddr m.parity a else eraseAddr m.parity a }

/-! ## Words -/

/-- Lane `lane` of a word (section 0-4). -/
def lane (w : Word) (k : Nat) : Byte := w.extractLsb' (8 * k) 8

/-- The word made of four byte lanes, lane 0 least significant (section 0-4). -/
def ofLanes (b0 b1 b2 b3 : Byte) : Word := b3 ++ b2 ++ b1 ++ b0

/-- The word stored at a region word address. -/
def Memory.readWord (m : Memory) (r : RegionId) (a : Nat) : Word :=
  ofLanes (m.byte (byteAddr r a 0)) (m.byte (byteAddr r a 1)) (m.byte (byteAddr r a 2)) (m.byte (byteAddr r a 3))

/-- Whether the word stored at a region word address carries good parity on all four lanes (R134). -/
def Memory.wordParityOk (m : Memory) (r : RegionId) (a : Nat) : Bool :=
  m.parityAt (byteAddr r a 0) && m.parityAt (byteAddr r a 1) && m.parityAt (byteAddr r a 2) && m.parityAt (byteAddr r a 3)

/-- Writes one lane of a word when its byte enable is set; a disabled lane is not written (R62). -/
def Memory.writeLane (m : Memory) (r : RegionId) (a k : Nat) (d : Word × BitVec 4) (withParity : Bool) : Memory :=
  if d.2.getLsbD k then m.setByte (byteAddr r a k) (lane d.1 k) withParity else m

/-- Writes a word through its byte enables, lane by lane (R62). -/
def Memory.writeWord (m : Memory) (r : RegionId) (a : Nat) (d : Word × BitVec 4) (withParity : Bool) : Memory :=
  (((m.writeLane r a 0 d withParity).writeLane r a 1 d withParity).writeLane r a 2 d withParity).writeLane r a 3 d
    withParity

/-! ## Bursts on memory -/

/-- The region word addresses a burst moves, in carried order: linear from its first address, or wrapping inside its own
aligned group of its length (R61, R79). -/
def Burst.addrs (b : Burst) : List Nat :=
  (List.range b.len).map fun i => if b.wrap then b.addr - b.addr % b.len + (b.addr % b.len + i) % b.len else b.addr + i

/-- Every word of the burst lies in its region (R17). -/
def Burst.inRange (b : Burst) : Bool := b.addrs.all fun a => decide (a < Config.regionWords)

/-- Writes those words of a write burst whose position the device has taken; a read burst writes nothing. -/
def Burst.landFrom (b : Burst) (r : RegionId) (taken : Nat → Bool) : Nat → List Nat → List (Word × BitVec 4) → Memory →
    Memory
  | k, a :: as, d :: ds, m =>
    Burst.landFrom b r taken (k + 1) as ds
      (if taken k && decide (a < Config.regionWords) then m.writeWord r a d b.clock.parityLane else m)
  | _, _, _, m => m

/-- The memory after a burst whose words at the positions `taken` have been moved. -/
def Burst.land (b : Burst) (r : RegionId) (taken : Nat → Bool) (m : Memory) : Memory :=
  if b.write then b.landFrom r taken 0 b.addrs b.data m else m

/-- What the part samples for the word at position `k` of a read burst: the memory's word and parity, unless the device
put something else on the bus. -/
def sampleWord (m : Memory) (r : RegionId) (dev : List BusDeviation) (k a : Nat) : Word × Bool :=
  match dev.find? (fun d => d.index == k) with
  | some d => (d.seen, d.parityOk)
  | none => (m.readWord r a, m.wordParityOk r a)

/-- The words and parities sampled over a read burst, in carried order; none for a write burst. -/
def Burst.samples (b : Burst) (r : RegionId) (dev : List BusDeviation) (m : Memory) : List (Nat × Word × Bool) :=
  if b.write then [] else b.addrs.mapIdx fun k a => (a, sampleWord m r dev k a)

end Sys2Proof.Machine
end

