-- ==== Sys2Proof/Machine/Operands.lean ====
section
/-!
DEFINITION. What a request's operands come to: rings, the kind, bounds and bracket tests, the resolution to a region word
range (Chapter 1), the wrapped read (Chapter 5), the accesses of each context and their cut into bursts (Chapter 4), the
words an access writes, and the item of a cursor (Chapter 9).
-/

namespace Sys2Proof.Machine

/-! ## Translation (Chapter 1) -/

/-- The weaker of two rings, the numerically larger (R12). -/
def weaker (a b : Ring) : Ring := if a.val ≤ b.val then b else a

/-- A ring is within a bracket (section 0-4). -/
def within (ring bracket : Ring) : Bool := decide (ring.val ≤ bracket.val)

/-- A READ of length `n` is wrapped under this descriptor (R73). -/
def Descriptor.wraps (d : Descriptor) (n : Nat) : Bool := decide (n = d.block) && decide (1 < d.block)

/-- The block base of the order block that holds region word address `a` (R74). -/
def blockBase (a block : Nat) : Nat := a - a % block

/-- The bounds test of R16 for a READ, at segment offset `f`, counted in full width. -/
def Descriptor.readInside (d : Descriptor) (f n : Nat) : Bool :=
  decide (f + n ≤ d.limit) &&
    (!d.wraps n ||
      decide (d.base ≤ blockBase (d.base + f) d.block) &&
        decide (blockBase (d.base + f) d.block + d.block ≤ d.base + d.limit))

/-- The bounds test of R16 for each request that takes a segment offset. -/
def Descriptor.inside (d : Descriptor) (k : ReqKind) (f n : Nat) : Bool :=
  match k with
  | .read => d.readInside f n
  | .write => decide (f + n ≤ d.limit)
  | .compareSwap => decide (f + 1 ≤ d.limit)
  | .append => true
  | .journalRestart => decide (1 ≤ f) && decide (f + 3 ≤ d.limit)
  | .cursorRead => decide (f + n ≤ d.limit * 4)
  | .cursorWrite => decide (f + n ≤ d.limit * 4)

/-- The bracket test of Table 1-3 on a segment that is not INDIRECT. -/
def Descriptor.admits (d : Descriptor) (k : ReqKind) (ring : Ring) : Bool :=
  match k with
  | .read => within ring d.readBracket
  | .write => within ring d.writeBracket
  | .compareSwap => within ring d.readBracket && within ring d.writeBracket
  | .append => within ring d.writeBracket
  | .journalRestart => within ring d.writeBracket
  | .cursorRead => within ring d.readBracket
  | .cursorWrite => within ring d.writeBracket

/-- The kind test of Table 1-4. -/
def kindAllowed (k : ReqKind) (seg : SegKind) : Bool :=
  match k, seg with
  | .read, .direct => true
  | .read, .indirect => true
  | .read, .journal => true
  | .write, .direct => true
  | .write, .indirect => true
  | .compareSwap, .direct => true
  | .compareSwap, .indirect => true
  | .append, .journal => true
  | .journalRestart, .journal => true
  | .cursorRead, .direct => true
  | .cursorWrite, .direct => true
  | _, _ => false

/-- Translation of a data request (R14): presence, kind, bounds, ring; the first failing test names the status. A request
on an INDIRECT segment is tested against its read bracket, with no bounds test (R13, R43). -/
def translateRequest (d : Descriptor) (k : ReqKind) (ring : Ring) (f n : Nat) : Option Status :=
  if d.kind = .absent then some .noSegment
  else if kindAllowed k d.kind = false then some .kindMismatch
  else if d.kind = .indirect then (if within ring d.readBracket then none else some .ringDenied)
  else if d.inside k f n = false then some .bounds
  else if d.admits k ring = false then some .ringDenied
  else none

/-- What a wrapped read fixes in its context (R73, R74), for a start address `s`. -/
def wrapOf (d : Descriptor) (n s : Nat) : Option Wrap :=
  if d.wraps n then some { order := d.order, block := d.block, base := blockBase s d.block, start := s % d.block } else none

/-- The fields of a context that the resolution of R17 and R47 sets, in stage MAIN, at segment offset `t`, for READ, WRITE
and COMPARE_SWAP of `n` words. -/
def Context.resolve (c : Context) (d : Descriptor) (t n : Nat) : Context :=
  let a := d.base + t
  let w := match c.kind with
    | .read => wrapOf d n a
    | _ => none
  let range := match c.kind, w with
    | .read, some w => (w.base, w.base + w.block)
    | .compareSwap, _ => (a, a + 1)
    | _, _ => (a, a + n)
  { c with
    stage := .main, state := .waiting, region := d.region, addr := a, first := range.1, last := range.2,
    length := (if c.kind = .compareSwap then 2 else n), progress := 0, result := List.replicate 64 0, wrap := w,
    pieces := none, scratch := [], parityOk := true }

/-- The fields of a context in stage LINK (Table 3-2). -/
def Context.toLink (c : Context) (d : Descriptor) : Context :=
  { c with
    stage := .link, state := .waiting, region := d.region, addr := d.base, first := d.base, last := d.base + 2,
    length := 2, progress := 0 }

/-! ## The hazard hold (R55) -/

/-- A context is a writer in its current stage (Table 4-1). -/
def Context.writer (c : Context) : Bool :=
  match c.stage, c.kind with
  | .link, _ => false
  | .main, .read => false
  | .main, .write => true
  | .main, .compareSwap => true
  | .main, .append => true
  | .main, .journalRestart => true
  | .main, .cursorRead => false
  | .main, .cursorWrite => true

/-- Two word ranges share a region word address. -/
def Context.overlaps (c e : Context) : Bool :=
  decide (max c.first e.first < min c.last e.last)

/-- The earlier context `e` holds the later context `c` (R55). -/
def Context.heldBy (c e : Context) : Bool := c.overlaps e && (c.writer || e.writer)

/-! ## Journal words (Table 12-10) -/

/-- The working values an append keeps in the first six words of its result buffer (Table 8-3): `c`, `fill`, `s`, `size`,
`next` and whether the hop has been made. -/
structure Working where
  c : Nat
  fill : Nat
  s : Nat
  size : Nat
  next : Nat
  hopped : Bool
  deriving DecidableEq, Repr

/-- The working values as the result buffer holds them (R113). -/
def Working.ofResult (l : List Word) : Working :=
  { c := (l.getD 0 0).toNat, fill := (l.getD 1 0).toNat, s := (l.getD 2 0).toNat, size := (l.getD 3 0).toNat,
    next := (l.getD 4 0).toNat, hopped := l.getD 5 0 != 0 }

/-- The result buffer with the working values in its first six words. -/
def Working.toResult (w : Working) (l : List Word) : List Word :=
  [word w.c, word w.fill, word w.s, word w.size, word w.next, if w.hopped then 1 else 0] ++ l.drop 6

/-- The offset field of an anchor word or next link: bits 0-23. -/
def offsetField (w : Word) : Nat := w.toNat % 16777216

/-- The fill of a progress word: bits 16-31. -/
def fillField (w : Word) : Nat := w.toNat / 65536

/-- The sequence number of a progress word, or the size of a size word: bits 0-15. -/
def lowHalf (w : Word) : Nat := w.toNat % 65536

/-- A progress word (Table 12-10). -/
def progressWord (fill s : Nat) : Word := word (s % 65536 + fill * 65536)

/-- A record header (Table 12-10, R112). -/
def recordHeader (src : SourceId) (n s : Nat) : Word := word (s % 65536 + n * 65536 + src.val * 16777216)

/-! ## Accesses (Table 4-2) -/

/-- An access: a run of region word addresses in one direction. -/
structure Access where
  addr : Nat
  len : Nat
  write : Bool
  deriving DecidableEq, Repr

/-- The access of an append's step (Table 8-2), in region word addresses. -/
def Context.appendAccess (c : Context) : Access :=
  let w := Working.ofResult c.result
  match c.step with
  | .anchorRead => { addr := c.addr, len := 1, write := false }
  | .headerRead => { addr := c.addr + w.c, len := 3, write := false }
  | .sizeRead => { addr := c.addr + (w.next + 1), len := 1, write := false }
  | .freshWrite => { addr := c.addr + w.next, len := 1, write := true }
  | .anchorWrite => { addr := c.addr, len := 1, write := true }
  | .recordWrite => { addr := c.addr + (w.c + w.fill), len := 1 + c.payload.length, write := true }
  | .commit => { addr := c.addr + w.c, len := 1, write := true }

/-- The access of JOURNAL_RESTART's step (R120). -/
def Context.restartAccess (c : Context) : Access :=
  match c.step with
  | .freshWrite => { addr := c.addr + c.opOffset, len := 1, write := true }
  | _ => { addr := c.addr, len := 1, write := true }

/-- The access a context makes or is to make next (Table 4-2). -/
def Context.access (c : Context) : Access :=
  match c.stage, c.kind with
  | .link, _ => { addr := c.addr, len := 2, write := false }
  | .main, .read => { addr := c.addr, len := c.length, write := false }
  | .main, .write => { addr := c.addr, len := c.length, write := true }
  | .main, .compareSwap => { addr := c.addr, len := 1, write := decide (c.progress ≠ 0) }
  | .main, .append => c.appendAccess
  | .main, .journalRestart => c.restartAccess
  | .main, .cursorRead => { addr := c.addr, len := c.length, write := false }
  | .main, .cursorWrite => { addr := c.addr, len := c.length, write := true }

/-- Cuts `n` words from `a` at the multiples of `b`, at most `fuel` bursts (R61). -/
def cutFuel : Nat → Nat → Nat → Nat → List Piece
  | 0, _, _, _ => []
  | _ + 1, _, _, 0 => []
  | fuel + 1, b, a, n + 1 =>
    let l := min (b - a % b) (n + 1)
    { addr := a, len := l, wrap := false } :: cutFuel fuel b (a + l) (n + 1 - l)

/-- The bursts of a linear access of `n` words from `a` at burst length `b` (R61). -/
def cut (b a n : Nat) : List Piece := cutFuel n b a n

/-- The plan of a wrapped read of start address `s` (R78 to R81). -/
def wrapPlan (cl : ClockGroup) (tm : TimingGroup) (w : Wrap) (s : Nat) : List Piece :=
  match w.order with
  | .rotate =>
    if cl.sync && tm.nativeWrap && tm.burst == w.block then [{ addr := s, len := w.block, wrap := true }]
    else cut tm.burst s (w.base + w.block - s) ++ cut tm.burst w.base (s - w.base)
  | .interchange => cut tm.burst w.base w.block

/-- The bursts of a context's next access, cut under the given profile (R61, R62, R78). -/
def Context.plan (c : Context) (cl : ClockGroup) (tm : TimingGroup) : List Piece :=
  match c.stage, c.kind, c.wrap with
  | .main, .read, some w => wrapPlan cl tm w c.addr
  | _, _, _ =>
    let a := c.access
    cut (if a.write && !cl.sync then 1 else tm.burst) a.addr a.len

/-! ## The item of a cursor (R128, R129) -/

/-- The rounded position of a byte position. -/
def roundedPos (p size : Nat) : Nat := p - p % size

/-- The words of an item: 2 for 8 bytes, else 1. -/
def itemWords (size : Nat) : Nat := if size = 8 then 2 else 1

/-- The byte enables of an item of `size` bytes whose first byte is at lane `lane`. -/
def itemLanes (lane size : Nat) : BitVec 4 :=
  if size = 1 then 1#4 <<< lane else if size = 2 then 3#4 <<< lane else 15#4

/-- The low and high word of the item read at rounded position `q` (R129). -/
def itemRead (q size : Nat) (w0 w1 : Word) : Word × Word :=
  if size = 8 then (w0, w1)
  else if size = 4 then (w0, 0)
  else if size = 2 then ((w0 >>> (8 * (q % 4))) &&& 0xFFFF#32, 0)
  else ((w0 >>> (8 * (q % 4))) &&& 0xFF#32, 0)

/-- What a CURSOR_WRITE puts on the bus for the word `k` of its item, with its byte enables (R129). -/
def itemWrite (q size : Nat) (payload : List Word) (k : Nat) : Word × BitVec 4 :=
  (payload.getD k 0 <<< (if size = 1 ∨ size = 2 then 8 * (q % 4) else 0), itemLanes (q % 4) size)

/-! ## Write data -/

/-- The word, and its byte enables, that a context writes to region word address `a` in its current access (R30, R34,
Table 8-2, R120, R129). -/
def Context.datum (c : Context) (a : Nat) : Word × BitVec 4 :=
  let w := Working.ofResult c.result
  match c.kind with
  | .write => (c.payload.getD (a - c.addr) 0, 15#4)
  | .compareSwap => (c.payload.getD 1 0, 15#4)
  | .append =>
    (match c.step with
     | .freshWrite => progressWord 3 w.s
     | .anchorWrite => word w.next
     | .recordWrite => (recordHeader c.source c.payload.length w.s :: c.payload).getD (a - (c.addr + (w.c + w.fill))) 0
     | .commit => progressWord (w.fill + 1 + c.payload.length) (w.s + 1)
     | _ => 0, 15#4)
  | .journalRestart =>
    (match c.step with
     | .freshWrite => progressWord 3 0
     | _ => word c.opOffset, 15#4)
  | .cursorWrite => itemWrite c.curRounded c.curSize c.payload (a - c.addr)
  | .read => (0, 0#4)
  | .cursorRead => (0, 0#4)

/-! ## Result placement -/

/-- The response position of the word at region word address `a` of a wrapped read (R75, R76). -/
def Wrap.position (w : Wrap) (a : Nat) : Nat :=
  match w.order with
  | .rotate => (a - w.base + w.block - w.start) % w.block
  | .interchange => (a - w.base) ^^^ w.start

/-- The place in the result buffer of the word read at region word address `a` (R29, R77). -/
def Context.position (c : Context) (a : Nat) : Nat :=
  match c.wrap with
  | some w => w.position a
  | none => a - c.addr

/-- Places the words of a completed read burst (R28, R77); an append keeps its words apart (R113). -/
def Context.place (c : Context) (ws : List (Nat × Word)) : Context :=
  if c.kind = .append then { c with scratch := c.scratch ++ ws.map Prod.snd }
  else { c with result := ws.foldl (fun l w => l.set (c.position w.1) w.2) c.result }

end Sys2Proof.Machine
end

