-- ==== Sys2Proof/Machine/Words.lean ====
section
/-!
DEFINITION. The words of the frames the part sends: status codes, result words and the words of the management reads
(Tables 12-5, 12-6, 12-8 and 12-9, R162, R163). A bit that a layout does not name is sent as 0 (R160).
-/

namespace Sys2Proof.Machine

/-- Status codes (Table 12-5). -/
def Status.code : Status → Nat
  | .ok => 0
  | .exhausted => 1
  | .compareFailed => 2
  | .notStarted => 3
  | .contained => 4
  | .noSource => 5
  | .sourceMismatch => 6
  | .notManager => 7
  | .badRequest => 8
  | .busy => 9
  | .noContext => 10
  | .noSegment => 11
  | .kindMismatch => 12
  | .bounds => 13
  | .ringDenied => 14
  | .pointerFault => 15
  | .indirectLoop => 16
  | .regionOffline => 17
  | .deviceTimeout => 18
  | .journalFull => 19
  | .journalBroken => 20
  | .recordTooLarge => 21
  | .cursorBusy => 22
  | .cursorUnset => 23
  | .wrongState => 24
  | .badValue => 25
  | .poisoned => 26
  | .selfLockout => 27
  | .notTrained => 28

/-- The request code of a data request that takes a context (Table 12-2). -/
def ReqKind.code : ReqKind → Nat
  | .read => 1
  | .write => 2
  | .compareSwap => 3
  | .append => 4
  | .journalRestart => 5
  | .cursorRead => 9
  | .cursorWrite => 10

/-- A response frame without its check word (R162): class RESPONSE, then the status word and the result words. -/
def responseFrame (code : Nat) (h : Hdr) (st : Status) (results : List Word) : List Word :=
  headerWord (results.length + 3) 2 code h :: word st.code :: results

/-- An alert frame without its check word (R162): class ALERT, code 0, tag 0, the target's source ID, the flag words. -/
def alertFrame (target : SourceId) (flags : BitVec 64) : List Word :=
  [headerWord 4 3 0 { src := target, tag := 0 }, flags.extractLsb' 0 32, flags.extractLsb' 32 32]

/-- The response of a context, assembled from its record (R37). -/
def Context.response (c : Context) : List Word :=
  responseFrame c.kind.code { src := c.source, tag := c.tag } c.status c.result

/-- The result words of CURSOR_QUERY (Table 12-6 note 1). -/
def cursorWords (c : Cursor) : List Word :=
  [word (bitNat c.isSet + bitNat c.inFlight * 2 + c.ring.val * 4 + c.segment.val * 16 + c.size * 16777216),
   word c.pos, word c.count]

/-- The three SEGMENT_READ words (Table 12-9). -/
def descriptorWords (seg : Nat) (d : Descriptor) : List Word :=
  [segmentWord seg
     { kind := d.kind, region := d.region.val, base := d.base, limit := d.limit, readBracket := d.readBracket,
       writeBracket := d.writeBracket, order := d.order, block := d.block },
   word d.base, word d.limit]

/-- The codes of the region states (Table 12-9 note 1). -/
def RegionState.code : RegionState → Nat
  | .offline => 0
  | .training => 1
  | .settling => 2
  | .online => 3
  | .quiescing => 4
  | .parked => 5
  | .halted => 6

/-- The codes of the pending actions (Table 12-9 note 1). -/
def PendingAction.code : PendingAction → Nat
  | .apply => 0
  | .park => 1
  | .offline => 2

/-- The recorded prior state, while HALTED. -/
def Region.priorCode (g : Region) : Nat :=
  match g.state, g.prior with
  | .halted, some p => p.code
  | _, _ => 0

/-- The pending action, while QUIESCING or recorded with a prior state QUIESCING. -/
def Region.actionCode (g : Region) : Nat :=
  match g.state, g.prior, g.action, g.priorAction with
  | .quiescing, _, some a, _ => a.code
  | .halted, some .quiescing, _, some a => a.code
  | _, _, _, _ => 0

/-- The PROFILE_READ region word (Table 12-9 note 1). -/
def Region.regionWord (g : Region) : Word :=
  word (clockNat g.clock + bitNat g.trained * 65536 + g.state.code * 1048576 + g.priorCode * 16777216 +
    g.actionCode * 268435456)

/-- The patrol group as last written, whether or not it has entered the profile (R89). -/
def Region.lastPatrol (g : Region) : PatrolGroup := g.written.getD g.patrol

/-- The lane delay word: lane i in bits 8i to 8i + 5; a lane that the region has not reads 0 (Table 12-9 note 1). -/
def Region.delayWord (g : Region) : Word :=
  word (g.delays.getD 0 0 + g.delays.getD 1 0 * 256 + g.delays.getD 2 0 * 65536 + g.delays.getD 3 0 * 16777216)

/-- The 10 words of PROFILE_READ (Table 12-9). -/
def Region.profileWords (g : Region) : List Word :=
  [g.regionWord, timingWord2 g.timing, timingWord3 g.timing] ++ patrolWords g.lastPatrol ++ [g.delayWord]

/-- The codes of the device modes (Table 12-9 note 2). -/
def DeviceMode.code : DeviceMode → Nat
  | .config => 0
  | .run => 1
  | .contained => 2

/-- The faulted groups in bits 16-18 of the containment record word. -/
def Groups.bits (g : Groups) : Nat := bitNat g.clock * 65536 + bitNat g.timing * 131072 + bitNat g.patrol * 262144

/-- The containment record word without the prior mode (Table 12-9 note 2): cause, context named, table, port or region,
faulted groups. -/
def FaultItem.recordNat : FaultItem → Nat
  | .source _ => 1
  | .segment _ => 1 + 256
  | .profile r g => 1 + 512 + r.val * 4096 + g.bits
  | .context _ => 2
  | .memory r _ => 3 + r.val * 4096
  | .egress p i => 4 + bitNat i.isSome * 32 + p.code * 4096
  | .patrol r _ => 5 + r.val * 4096

/-- The detail value (Table 12-9 note 2): the index, context index or region word address; 0 where the detail has none
(log entry 17). -/
def FaultItem.detail : FaultItem → Nat
  | .source i => i.val
  | .segment i => i.val
  | .profile _ _ => 0
  | .context i => i.val
  | .memory _ a => a
  | .egress _ (some i) => i.val
  | .egress _ none => 0
  | .patrol _ a => a

/-- The containment record word: 0 while the cause is none. -/
def recordWord : Option ContainmentRecord → Word
  | none => 0
  | some c => word (c.item.recordNat + (if c.prior = .run then 16 else 0))

/-- The detail value word: 0 while the cause is none. -/
def detailWord : Option ContainmentRecord → Word
  | none => 0
  | some c => word c.item.detail

/-- A region profile that the poisoned set names (R142). -/
def Groups.any (g : Groups) : Bool := g.clock || g.timing || g.patrol

/-- The size of the poisoned set (R142). -/
def State.poisonedSize (s : State) : Nat :=
  s.poisonedSources.length + s.poisonedSegments.length + (s.regions.toList.filter fun g => g.poison.any).length

/-- The number of non-FREE contexts (R39). -/
def State.heldContexts (s : State) : Nat := (s.ctxs.toList.filter fun c => c.state != .free).length

/-- The enables and region states word (Table 12-9 note 2). -/
def State.enablesWord (s : State) : Word :=
  word (bitNat s.ports.a.rxOn + bitNat s.ports.b.rxOn * 2 + bitNat s.ports.c.rxOn * 4 + bitNat s.ports.d.rxOn * 8 +
    bitNat s.ports.a.txOn * 16 + bitNat s.ports.b.txOn * 32 + bitNat s.ports.c.txOn * 64 + bitNat s.ports.d.txOn * 128 +
    (s.regions.toList.mapIdx fun r g => g.state.code * 2 ^ (8 + 3 * r)).sum)

/-- The six words of STATUS_READ (Table 12-9, R158). -/
def State.statusWords (s : State) : List Word :=
  [word (s.mode.code + s.heldContexts * 256 + s.poisonedSize * 65536), recordWord s.record, detailWord s.record,
   s.enablesWord, s.alerts.extractLsb' 0 32, s.alerts.extractLsb' 32 32]

end Sys2Proof.Machine
end

