-- ==== Sys2Proof/Machine/Ops.lean ====
section
/-!
DEFINITION. The shared operations of the part: the accessors of its tables, the egress queue and delivery lists
(Chapter 11), the ending and release of contexts (Chapter 2), the check points and containment (Chapter 10), the alert
rounds, the region states that several events enter (Chapter 6), the burst turn (Chapter 4) and the acceptance of a frame.
-/

namespace Sys2Proof.Machine

/-! ## Accessors -/

/-- The state of a port. -/
def State.port (s : State) : Port → PortState
  | .A => s.ports.a
  | .B => s.ports.b
  | .C => s.ports.c
  | .D => s.ports.d

/-- The four ports with one replaced. -/
def Ports.put (x : Ports) (p : Port) (v : PortState) : Ports :=
  match p with
  | .A => { x with a := v }
  | .B => { x with b := v }
  | .C => { x with c := v }
  | .D => { x with d := v }

/-- Replaces the state of a port. -/
def State.setPort (s : State) (p : Port) (v : PortState) : State := { s with ports := s.ports.put p v }

/-- A Source Table entry's fields. -/
def State.source (s : State) (i : SourceId) : SourceFields := s.sources[i].fields

/-- Stores a Source Table entry. -/
def State.setSource (s : State) (i : SourceId) (e : SourceEntry) : State :=
  { s with sources := s.sources.set i.val e i.isLt }

/-- A segment descriptor. -/
def State.segment (s : State) (i : SegNo) : Descriptor := s.segments[i].desc

/-- Stores a segment descriptor. -/
def State.setSegment (s : State) (i : SegNo) (e : SegmentEntry) : State :=
  { s with segments := s.segments.set i.val e i.isLt }

/-- A context record. -/
def State.ctx (s : State) (i : CtxId) : Context := s.ctxs[i]

/-- Writes a context record. -/
def State.setCtx (s : State) (i : CtxId) (c : Context) : State := { s with ctxs := s.ctxs.set i.val c i.isLt }

/-- A source's outstanding count. -/
def State.count (s : State) (i : SourceId) : Nat := s.counts[i]

/-- Sets a source's outstanding count. -/
def State.setCount (s : State) (i : SourceId) (n : Nat) : State := { s with counts := s.counts.set i.val n i.isLt }

/-- The place of a source's cursor in the Cursor Table (R124). -/
def cursorIndex (i : SourceId) (k : Fin 2) : Fin 128 := ⟨2 * i.val + k.val, by omega⟩

/-- A cursor of a source. -/
def State.cursor (s : State) (i : SourceId) (k : Fin 2) : Cursor := s.cursors[cursorIndex i k]

/-- Writes a cursor of a source. -/
def State.setCursor (s : State) (i : SourceId) (k : Fin 2) (c : Cursor) : State :=
  { s with cursors := s.cursors.set (cursorIndex i k).val c (cursorIndex i k).isLt }

/-- A region. -/
def State.region (s : State) (r : RegionId) : Region := s.regions[r]

/-- Replaces a region. -/
def State.setRegion (s : State) (r : RegionId) (g : Region) : State := { s with regions := s.regions.set r.val g r.isLt }

/-- The next port in the order A, B, C, D, A (R149). -/
def portAfter : Port → Port
  | .A => .B
  | .B => .C
  | .C => .D
  | .D => .A

/-- Sends a link signal to the partner of a port (R148). -/
def State.signal (s : State) (p : Port) (x : Signal) : State :=
  s.setPort p { s.port p with signals := (s.port p).signals ++ [x] }

/-! ## Egress (R150) -/

/-- The sending of the head frame begins when the transmitter is enabled and idle and a transmit credit is held; the frame
leaves the egress queue then, with its check word formed (R147, R150). -/
def PortState.trySend (x : PortState) : PortState :=
  match x.egress with
  | [] => x
  | f :: rest =>
    if x.txOn && x.sending.isNone && decide (0 < x.txCredits) then
      { x with egress := rest, sending := some (withCheck f), txCredits := x.txCredits - 1 }
    else x

/-- The head frame of a port begins to be sent where it can. -/
def State.trySend (s : State) (p : Port) : State := s.setPort p (s.port p).trySend

/-- Free slots of an egress queue. -/
def PortState.freeSlots (x : PortState) : Nat := Config.egressDepth - x.egress.length

/-- A frame joins the egress queue, and is sent at once where the port can send it. -/
def State.join (s : State) (p : Port) (f : List Word) : State :=
  (s.setPort p { s.port p with egress := (s.port p).egress ++ [f] }).trySend p

/-! ## Service queues (R53, R58) -/

/-- Takes a context out of its place in a service queue; the turn pointer keeps its place between its neighbours. -/
def Region.leave (g : Region) (i : CtxId) : Region :=
  if g.queue.contains i then
    { g with queue := g.queue.erase i, turn := if g.queue.idxOf i < g.turn then g.turn - 1 else g.turn }
  else g

/-- A context enters at the tail of a service queue. -/
def Region.enter (g : Region) (i : CtxId) : Region := { g with queue := g.queue ++ [i] }

/-- Takes a context out of a region's queue. -/
def State.leaveQueue (s : State) (r : RegionId) (i : CtxId) : State := s.setRegion r ((s.region r).leave i)

/-- Enters a context at the tail of a region's queue. -/
def State.enterQueue (s : State) (r : RegionId) (i : CtxId) : State := s.setRegion r ((s.region r).enter i)

/-! ## Ending and release of contexts (R28, R35, R36, R131) -/

/-- A request kind that writes a journal as a journal (Chapter 8). -/
def ReqKind.isJournal : ReqKind → Bool
  | .append => true
  | .journalRestart => true
  | .read => false
  | .write => false
  | .compareSwap => false
  | .cursorRead => false
  | .cursorWrite => false

/-- A cursor step's request kind. -/
def ReqKind.isCursor : ReqKind → Bool
  | .cursorRead => true
  | .cursorWrite => true
  | .read => false
  | .write => false
  | .compareSwap => false
  | .append => false
  | .journalRestart => false

/-- Releases a context: its record becomes FREE and its source's outstanding count falls by one (R36). -/
def State.release (s : State) (i : CtxId) : State :=
  (s.setCount (s.ctx i).source (s.count (s.ctx i).source - 1)).setCtx i .free

/-- Clears the in-flight marker of the cursor whose step a context carries (R130, R131). -/
def State.clearMarker (s : State) (c : Context) : State :=
  if c.kind.isCursor then s.setCursor c.source c.cursor { s.cursor c.source c.cursor with inFlight := false } else s

/-- Hands a DONE context to its arrival port: to the tail of the delivery list, or released at once with its response
discarded where the transmitter is disabled (R35). -/
def State.handOver (s : State) (p : Port) (i : CtxId) : State :=
  if (s.port p).txOn then s.setPort p { s.port p with delivery := (s.port p).delivery ++ [i] } else s.release i

/-- Ends a context: it leaves its queue, becomes DONE with its status and result words fixed, its cursor's marker is
cleared, and it is handed to its arrival port (R28, R31 to R33, R131). -/
def State.endCtx (s : State) (i : CtxId) (st : Status) (results : List Word) : State :=
  let c := s.ctx i
  let s := (s.leaveQueue c.region i).clearMarker c
  (s.setCtx i { c with state := .done, status := st, result := results, pieces := none, parityOk := true }).handOver
    c.port i

/-- Ends the contexts of a list, in its order, each with the same status and no result words. -/
def State.endAll (s : State) (l : List CtxId) (st : Status) : State := l.foldl (fun s i => s.endCtx i st []) s

/-! ## Regions leaving and entering states (Chapter 6) -/

/-- A data or patrol burst of the region is in flight: on its bus and not abandoned (R57, R66). -/
def Region.inFlight (g : Region) : Bool :=
  match g.burst with
  | some b => !b.abandoned
  | none => false

/-- The written patrol group enters the profile once no burst of the region is in flight (R88), with the parity that its
PROFILE_WRITE gave it (R134). -/
def Region.admitPatrol (g : Region) : Region :=
  match g.written with
  | some w => if g.inFlight then g else { g with patrol := w, written := none }
  | none => g

/-- An abandoned burst (R66). -/
def Burst.abandon (b : Burst) : Burst := { b with abandoned := true }

/-- The burst in flight is abandoned and stays on the bus (R66). -/
def Region.abandonBurst (g : Region) : Region := { g with burst := g.burst.map Burst.abandon }.admitPatrol

/-- The number of byte lanes of the region's bus (Table 6-1). -/
def busLanes (c : ClockGroup) : Nat := if c.wide then 4 else 2

/-- Untrained, with every lane delay 0 (Table 7-3). -/
def Region.untrain (g : Region) : Region :=
  { g with trained := false, delays := List.replicate (busLanes g.clock) 0 }

/-- Entry into SETTLING with an interval in microseconds; the open page becomes none (R63, R93). -/
def Region.settleFor (g : Region) (us : Nat) : Region :=
  { g with state := .settling, settle := some us, openPage := none, action := none, pendingTiming := none }

/-- A region leaves ONLINE: patrol-due is cleared and the patrol read in progress abandoned (R60). -/
def Region.dropPatrol (g : Region) : Region := { g with due := false, patrolRead := none }

/-- Entry into QUIESCING with a pending action (R96). -/
def Region.quiesce (g : Region) (a : PendingAction) : Region :=
  { g.dropPatrol with state := .quiescing, action := some a }

/-- Entry into PARKED (R97). -/
def Region.park (g : Region) : Region := { g.dropPatrol with state := .parked, action := none, pendingTiming := none }

/-- What entry into OFFLINE does to the region itself (R95). -/
def Region.goOffline (g : Region) : Region :=
  { g.dropPatrol with
    state := .offline, settle := none, action := none, pendingTiming := none, queue := [], turn := 0, training := none }

/-- Entry into OFFLINE: every context of the queue ends REGION_OFFLINE, from head to tail (R31, R95). -/
def State.enterOffline (s : State) (r : RegionId) : State :=
  let s := s.endAll (s.region r).queue .regionOffline
  s.setRegion r (s.region r).goOffline

/-- What the halt of containment does to a region (R100). -/
def Region.halt (g : Region) : Region :=
  let g := if g.state = .training then g.untrain else g
  let g := { g with prior := some g.state, priorAction := g.action }
  { g.dropPatrol.abandonBurst with
    state := .halted, action := none, pendingTiming := none, settle := none, training := none }

/-! ## Faults, containment and the poisoned set (Chapter 10) -/

/-- Adds the groups of `b` to those of `a`. -/
def Groups.union (a b : Groups) : Groups :=
  { clock := a.clock || b.clock, timing := a.timing || b.timing, patrol := a.patrol || b.patrol }

/-- A TABLE fault adds its entry to the poisoned set; another fault adds nothing (R142). -/
def State.poisonEntry (s : State) : FaultItem → State
  | .source i => { s with poisonedSources := s.poisonedSources.insert i }
  | .segment i => { s with poisonedSegments := s.poisonedSegments.insert i }
  | .profile r g => s.setRegion r { s.region r with poison := (s.region r).poison.union g }
  | .context _ => s
  | .memory _ _ => s
  | .egress _ _ => s
  | .patrol _ _ => s

/-- The contexts that are WAITING or SERVING, in ascending index (R33). -/
def State.unfinished (s : State) : List CtxId :=
  (List.finRange 32).filter fun i => (s.ctx i).state = .waiting || (s.ctx i).state = .serving

/-- Entry into containment (R140): the fault and the mode are recorded, every region is halted, the strobe-feedback inputs
are freed, every unfinished context ends CONTAINED, FAIL is asserted and the CONTAINED flag set. -/
def State.contain (s : State) (f : FaultItem) : State :=
  let s := { s with record := some { item := f, prior := s.mode }, mode := .contained, failPin := true }
  let s := s.poisonEntry f
  let s := { s with regions := s.regions.map Region.halt, holder := none, waiting := [] }
  (s.endAll s.unfinished .contained).raise .contained

/-- The Integrity Unit takes a fault: containment in CONFIG and RUN, a further fault in CONTAINED (R134, R140, R141). -/
def State.takeFault (s : State) (f : FaultItem) : State :=
  if s.mode = .contained then (s.poisonEntry f).raise .furtherFault else s.contain f

/-- The injection flags with one consumed (R137). -/
def Injection.consume (x : Injection) : CheckKind → Injection
  | .table => { x with table := false }
  | .context => { x with context := false }
  | .memory => { x with memory := false }
  | .egress => { x with egress := false }

/-- The injection flags with one set (R137). -/
def Injection.arm (x : Injection) : CheckKind → Injection
  | .table => { x with table := true }
  | .context => { x with context := true }
  | .memory => { x with memory := true }
  | .egress => { x with egress := true }

/-- A check point reports a fault: a pending injection of its check is consumed there, and the fault is taken. -/
def State.faultAt (s : State) (k : CheckKind) (f : FaultItem) : State :=
  ({ s with inject := s.inject.consume k }).takeFault f

/-- The TABLE check point of a Source Table entry finds a fault: the checks are enabled, the entry is not poisoned, and an
injection is pending or its parity mismatches (R19, R134, R135). -/
def State.sourceFaults (s : State) (i : SourceId) : Bool :=
  s.checks && !s.poisonedSources.contains i && (s.inject.table || !s.sources[i].parityOk)

/-- The TABLE check point of a segment descriptor finds a fault. -/
def State.segmentFaults (s : State) (i : SegNo) : Bool :=
  s.checks && !s.poisonedSegments.contains i && (s.inject.table || !s.segments[i].parityOk)

/-- The groups of a region profile that its read at a TABLE check point names as faulted, for a read of the groups
`read`: examined in the order clock, timing, patrol, without those already named; a pending injection names the first one
examined (R89, R135). -/
def State.profileFaults (s : State) (r : RegionId) (read : Groups) : Groups :=
  let g := s.region r
  if s.checks then
    let c := read.clock && !g.poison.clock
    let t := read.timing && !g.poison.timing
    let p := read.patrol && !g.poison.patrol
    { clock := c && (s.inject.table || !g.clockOk),
      timing := t && ((s.inject.table && !c) || !g.timingOk),
      patrol := p && ((s.inject.table && !c && !t) || !g.patrolOk) }
  else .none

/-- The CONTEXT check point of a record finds a fault (R134). -/
def State.contextFaults (s : State) (i : CtxId) : Bool :=
  s.checks && (s.inject.context || !(s.ctx i).parityOk)

/-- The EGRESS check point of a frame being assembled finds a fault: an injection is pending (R134, log entry 8). -/
def State.egressFaults (s : State) : Bool := s.checks && s.inject.egress

/-! ## Delivery lists (R151) -/

/-- The delivery list of a port can be served: it is not empty, the transmitter is enabled, and 2 slots are free. -/
def PortState.serviceable (x : PortState) : Bool :=
  x.txOn && !x.delivery.isEmpty && decide (2 ≤ x.freeSlots)

/-- Serves the head of a port's delivery list (R36, R151): its response is assembled and joins the egress queue, and the
context is released; a CONTEXT or EGRESS fault withholds the response and releases it. -/
def State.serveHead (s : State) (p : Port) : State :=
  match (s.port p).delivery with
  | [] => s
  | i :: rest =>
    let s1 := s.setPort p { s.port p with delivery := rest }
    if s.contextFaults i then (s1.release i).faultAt .context (.context i)
    else if s.egressFaults then (s1.release i).faultAt .egress (.egress p (some i))
    else (s1.join p (s.ctx i).response).release i

/-- The first port, from A to D, whose delivery list can be served. -/
def State.serviceablePort (s : State) : Option Port :=
  [Port.A, .B, .C, .D].find? fun p => (s.port p).serviceable

/-- Serves the delivery lists while one can be served, at most `fuel` heads. -/
def State.serveFuel : Nat → State → State
  | 0, s => s
  | n + 1, s =>
    match s.serviceablePort with
    | some p => State.serveFuel n (s.serveHead p)
    | none => s

/-- Serves the delivery lists while one can be served; they hold at most the 32 contexts of the pool (R151). -/
def State.serveAll (s : State) : State := State.serveFuel 32 s

/-! ## Alert rounds (R157) -/

/-- Offers one alert frame to a target, with the flags as they stand when it is assembled (R162): it joins its port's egress
queue where the transmitter is enabled and 2 slots are free, and is skipped otherwise. -/
def State.offerAlert (s : State) (i : SourceId) : State :=
  let p := (s.source i).port
  if (s.port p).txOn && decide (2 ≤ (s.port p).freeSlots) then
    if s.egressFaults then (s.faultAt .egress (.egress p none)).serveAll else s.join p (alertFrame i s.alerts)
  else s

/-- Reads one Source Table entry in an offer round, and offers the alert frame to a valid ALERT_TARGET source. -/
def State.offerTo (s : State) (i : SourceId) : State :=
  if s.sourceFaults i then (s.faultAt .table (.source i)).serveAll
  else if (s.source i).valid && (s.source i).alertTarget then s.offerAlert i
  else s

/-- One offer round: the Source Table read in ascending source ID (R157). -/
def State.alertRound (s : State) : State :=
  (List.finRange 64).foldl State.offerTo { s with raised := 0 }

/-- A flag of an enabled kind has changed from clear to set. -/
def State.alertDue (s : State) : Bool := s.raised &&& enabledFlags s.alertMask != 0

/-- Offer rounds while a flag of an enabled kind has changed from clear to set, at most `fuel`. -/
def State.offerFuel : Nat → State → State
  | 0, s => { s with raised := 0 }
  | n + 1, s => if s.alertDue then State.offerFuel n s.alertRound else { s with raised := 0 }

/-- The delivery lists are served, and the alert rounds made. A round can set CONTAINED and FURTHER_FAULT alone, so three
rounds are all there can be (R157). -/
def State.rounds (s : State) : State := State.offerFuel 3 s.serveAll

/-! ## The shared memory pins (R71) -/

/-- The regions with a burst on their bus, in flight or abandoned. -/
def State.onBus (s : State) : List RegionId := (List.finRange 8).filter fun r => (s.region r).burst.isSome

/-- Pins that no burst holds are given to a burst on a bus: to the only one, or to the one that the free value names
(R71, log entry 30). -/
def State.grantPins (s : State) : State :=
  match s.pins, s.onBus with
  | none, [r] => { s with pins := some r }
  | none, r :: q :: l =>
    { s with
      pins := some ((r :: q :: l).getD (Config.nextPins s.freeCount % (l.length + 2)) r),
      freeCount := s.freeCount + 1 }
  | _, _ => s

/-- The divider of the device clock that the part drives: that of the burst that holds the pins, where its region is SYNC
(R71). -/
def State.deviceClock (s : State) : Option Nat :=
  match s.pins.bind fun r => (s.region r).burst with
  | some b => if b.clock.sync then some b.clock.divider else none
  | none => none

/-- The end of an event: the delivery lists are served, the alert rounds made, and free pins given to a burst that wants
them. -/
def State.finish (s : State) : State := s.rounds.grantPins

/-! ## Burst turns (R57 to R63) -/

/-- The context at place `k` of a queue is held by an earlier one (R55). -/
def State.held (s : State) (queue : List CtxId) (k : Nat) (i : CtxId) : Bool :=
  (queue.take k).any fun j => (s.ctx i).heldBy (s.ctx j)

/-- The first eligible entry of a list of queue places. -/
def State.firstEligible (s : State) (queue : List CtxId) : List (Nat × CtxId) → Option (Nat × CtxId)
  | [] => none
  | (k, i) :: rest => if s.held queue k i then s.firstEligible queue rest else some (k, i)

/-- The queue places in the order of the scan: from after the turn pointer to the tail, then from the head (R59). -/
def scanOrder (queue : List CtxId) (turn : Nat) : List (Nat × CtxId) :=
  let places := queue.mapIdx fun k i => (k, i)
  places.drop turn ++ places.take turn

/-- The context that the next turn goes to, with its place (R59). -/
def State.nextTurn (s : State) (r : RegionId) : Option (Nat × CtxId) :=
  s.firstEligible (s.region r).queue (scanOrder (s.region r).queue (s.region r).turn)

/-- The page of a burst (R63). -/
def pageOf (tm : TimingGroup) (a : Nat) : Nat := a / tm.page

/-- The latency of a burst, in device clocks (R63). -/
def Region.latencyOf (g : Region) (a : Nat) : Nat :=
  if g.openPage = some (pageOf g.timing a) then g.timing.hit else g.timing.first

/-- The region with a burst issued on its bus: the open page becomes the burst's (R63). -/
def Region.issue (g : Region) (owner : BurstOwner) (pc : Piece) (write : Bool) (data : List (Word × BitVec 4)) : Region :=
  { g with
    burst := some
      { owner := owner, addr := pc.addr, len := pc.len, wrap := pc.wrap, write := write, data := data, clock := g.clock,
        timing := g.timing, latency := g.latencyOf pc.addr, abandoned := false },
    openPage := some (pageOf g.timing pc.addr) }

/-- The record as it stands for the issue of its next burst: an append's or restart's new access sets its length and
progress (R26, R113). -/
def Context.openAccess (c : Context) : Context :=
  match c.pieces, c.kind with
  | none, .append => { c with length := c.access.len, progress := 0, scratch := [] }
  | none, .journalRestart => { c with length := c.access.len, progress := 0, scratch := [] }
  | _, _ => c

/-- Issues the next burst of a context at place `k` of its queue (R59, R65). DEDUCED (log entry 34): a write access goes on
with the bursts of its old cut also where a clock-group write has changed the region's device class since its first burst. -/
def State.issueCtx (s : State) (r : RegionId) (k : Nat) (i : CtxId) : State :=
  let g := s.region r
  let c := s.ctx i
  match c.pieces.getD (c.plan g.clock g.timing) with
  | [] => s
  | pc :: rest =>
    let data := if c.access.write then (List.range pc.len).map fun j => c.datum (pc.addr + j) else []
    (s.setCtx i { c.openAccess with state := .serving, pieces := some rest, parityOk := true }).setRegion r
      { g.issue (.ctx i) pc c.access.write data with turn := k + 1 }

/-- A turn given to a context: its record is read at a CONTEXT check point and the clock and timing groups at a TABLE
check point, and its next burst is issued where neither finds a fault (R59, R89, R134). -/
def State.turnCtx (s : State) (r : RegionId) (k : Nat) (i : CtxId) : State :=
  if s.contextFaults i then s.faultAt .context (.context i)
  else
    let f := s.profileFaults r { clock := true, timing := true, patrol := false }
    if f.any then s.faultAt .table (.profile r f) else s.issueCtx r k i

/-- The patrol read as it stands for its next burst: its address, pattern and cut are those in force at its first
(R60). -/
def Region.openPatrol (g : Region) : PatrolRead :=
  g.patrolRead.getD
    { addr := g.patrol.addr, pattern := g.patrol.pattern, rest := cut g.timing.burst g.patrol.addr 4, words := [] }

/-- A turn given to the patrol read: the three groups are read at a TABLE check point (R60, R135). -/
def State.turnPatrol (s : State) (r : RegionId) : State :=
  let f := s.profileFaults r { clock := true, timing := true, patrol := true }
  if f.any then s.faultAt .table (.profile r f)
  else
    let g := s.region r
    match g.openPatrol.rest with
    | [] => s
    | pc :: rest =>
      s.setRegion r { g.issue .patrol pc false [] with patrolRead := some { g.openPatrol with rest := rest } }

/-- A Region Engine takes a turn where R57 lets it: to the patrol read when one is due in RUN, else to the first eligible
context after the turn pointer. -/
def State.takeTurn (s : State) (r : RegionId) : State :=
  let g := s.region r
  if g.state = .online ∧ g.burst = none then
    if g.due = true ∧ s.mode = .run then s.turnPatrol r
    else
      match s.nextTurn r with
      | some (k, i) => s.turnCtx r k i
      | none => s
  else s

/-- Turns of several regions, in the order given. -/
def State.takeTurns (s : State) (l : List RegionId) : State := l.foldl State.takeTurn s

/-! ## The pending action of QUIESCING (R96) -/

/-- The apply action: the pending timing group replaces the timing group, PROFILE_APPLIED is set, and the region settles
for 2 microseconds (R87, R96). -/
def State.applyTiming (s : State) (r : RegionId) (tm : TimingGroup) : State :=
  (s.setRegion r ({ (s.region r).dropPatrol with timing := tm, timingOk := true }.settleFor 2)).raise (.profileApplied r)

/-- Carries out the pending action of a QUIESCING region whose awaited burst has left the bus (R96). -/
def State.carryOut (s : State) (r : RegionId) : State :=
  let g := s.region r
  if g.state = .quiescing ∧ g.burst = none then
    match g.action with
    | some .apply => s.applyTiming r (g.pendingTiming.getD g.timing)
    | some .park => s.setRegion r g.park
    | some .offline => s.enterOffline r
    | none => s
  else s

/-! ## Strobe-feedback inputs (R103, R104) -/

/-- The probe of a training's step is issued: the step samples are cleared, the phase is AWAITING and the step timer
starts (R104). -/
def Training.probe (t : Training) : Training :=
  { t with awaiting := true, samples := List.replicate t.seek.length none }

/-- A region takes the inputs and issues the probe of its step: the step samples are cleared and the step timer starts. -/
def State.takeInputs (s : State) (r : RegionId) : State :=
  let g := s.region r
  { s.setRegion r { g with training := g.training.map Training.probe } with holder := some r }

/-- A training region becomes READY: it takes the inputs where they have no holder and the list is empty, and joins the
list otherwise (R103). -/
def State.becomeReady (s : State) (r : RegionId) : State :=
  if s.holder.isNone && s.waiting.isEmpty then s.takeInputs r else { s with waiting := s.waiting ++ [r] }

/-- The holder releases the inputs, and the head of the list takes them (R103). -/
def State.releaseInputs (s : State) : State :=
  match s.waiting with
  | [] => { s with holder := none }
  | r :: rest => ({ s with holder := none, waiting := rest }).takeInputs r

/-- A region whose training ends gives up the inputs or its place in the list (R103, R108). -/
def State.leaveInputs (s : State) (r : RegionId) : State :=
  if s.holder = some r then s.releaseInputs else { s with waiting := s.waiting.erase r }

/-! ## Acceptance (R149) -/

/-- A port qualifies for acceptance: it holds a frame, and its egress queue has a free slot or its transmitter is disabled. -/
def PortState.qualifies (x : PortState) : Bool :=
  !x.ingress.isEmpty && (decide (0 < x.freeSlots) || !x.txOn)

/-- The port whose head frame the Acceptance Unit takes next: the first that qualifies, from the pointer on. -/
def State.acceptPort (s : State) : Option Port :=
  [s.accPtr, portAfter s.accPtr, portAfter (portAfter s.accPtr), portAfter (portAfter (portAfter s.accPtr))].find? fun p => (s.port p).qualifies

/-- The acceptance that is next: the row that takes the head frame of the port whose turn it is. -/
def State.nextAcceptance (s : State) : Option Instr :=
  s.acceptPort.bind fun p => (s.port p).ingress.head?.map (frameInstr p)

/-- The head frame of a port leaves its ingress queue: a credit is returned where the receiver is enabled, and the pointer
moves to the port after it (R148, R149). -/
def State.takeFrame (s : State) (p : Port) : State :=
  let s1 := { s.setPort p { s.port p with ingress := (s.port p).ingress.tail } with accPtr := portAfter p }
  if (s.port p).rxOn then s1.signal p .credit else s1

/-- The acceptance event of a command: where its frame is the one the Acceptance Unit takes next, the frame leaves its
queue, the request is carried out, and the event ends; otherwise the event does not occur (log entry 1). -/
def State.accept (s : State) (i : Instr) (p : Port) (body : State → State) : State :=
  if s.nextAcceptance = some i then (body (s.takeFrame p)).finish else s

/-- An immediate response: it joins the arrival port's egress queue, is discarded where the transmitter is disabled, and
is withheld by an EGRESS fault (R20, R149, R150). -/
def State.respond (s : State) (p : Port) (h : Hdr) (code : Nat) (st : Status) (results : List Word) : State :=
  if (s.port p).txOn && decide (0 < (s.port p).freeSlots) then
    if s.egressFaults then s.faultAt .egress (.egress p none) else s.join p (responseFrame code h st results)
  else s

/-- Checks 2 and 3 of an acceptance: the source is valid, and the frame arrived on its bound port (R2). -/
def State.checkSource (s : State) (p : Port) (h : Hdr) : Option Status :=
  if (s.source h.src).valid = false then some .noSource
  else if (s.source h.src).port ≠ p then some .sourceMismatch
  else none

/-- Check 4: the device mode is RUN (R22). -/
def State.checkMode (s : State) : Option Status :=
  match s.mode with
  | .run => none
  | .config => some .notStarted
  | .contained => some .contained

/-- Checks 2 to 4 of a data frame, with the TABLE check point of the source read; a frame that passes goes on with
`body` (R2, R19, R20). -/
def State.acceptData (s : State) (p : Port) (h : Hdr) (code : Nat) (body : State → State) : State :=
  if s.sourceFaults h.src then (s.faultAt .table (.source h.src)).respond p h code .contained []
  else
    match (s.checkSource p h).or s.checkMode with
    | some st => s.respond p h code st []
    | none => body s

/-- Admission checks 2 to 4 of a management frame (R153). -/
def State.acceptManage (s : State) (p : Port) (h : Hdr) (code : Nat) (body : State → State) : State :=
  if s.sourceFaults h.src then (s.faultAt .table (.source h.src)).respond p h code .contained []
  else
    match s.checkSource p h with
    | some st => s.respond p h code st []
    | none => if (s.source h.src).manager then body s else s.respond p h code .notManager []

end Sys2Proof.Machine
end

