-- ==== Sys2Proof/Machine/RegionCommand.lean ====
section
/-!
DEFINITION. REGION_COMMAND: the five actions on the masked regions (R91 to R99).
-/

namespace Sys2Proof.Machine

/-- The device of a region may be brought up: ASYNC, or SYNC with the trained flag set (R92, R98, R101). -/
def Region.ready (g : Region) : Bool := !g.clock.sync || g.trained

/-! ## One action on one region (Table 6-4): the refusal reason, or the state after it is taken -/

/-- ONLINE (R92). -/
def State.online (s : State) (r : RegionId) : Except Status State :=
  let g := s.region r
  match g.state with
  | .offline => if g.ready then .ok (s.setRegion r (g.settleFor 10)) else .error .notTrained
  | _ => .error .wrongState

/-- The abort of a training by an OFFLINE action (R94, R108): the region gives up the strobe-feedback inputs. -/
def State.abortTraining (s : State) (r : RegionId) : State :=
  ((s.setRegion r { (s.region r).untrain with training := none }).leaveInputs r).enterOffline r

/-- OFFLINE (R94). -/
def State.offline (s : State) (r : RegionId) : Except Status State :=
  let g := s.region r
  match g.state with
  | .training => .ok (s.abortTraining r)
  | .settling => .ok (s.enterOffline r)
  | .parked => .ok (s.enterOffline r)
  | .online => .ok (if g.inFlight then s.setRegion r (g.quiesce .offline) else s.enterOffline r)
  | .quiescing => .ok (s.setRegion r { g with action := some .offline, pendingTiming := none })
  | .offline => .error .wrongState
  | .halted => .error .wrongState

/-- PARK (R97). -/
def State.parkRegion (s : State) (r : RegionId) : Except Status State :=
  let g := s.region r
  match g.state with
  | .online => .ok (s.setRegion r (if g.inFlight then g.quiesce .park else g.park))
  | .settling => .error .busy
  | .quiescing => .error .busy
  | _ => .error .wrongState

/-- UNPARK (R98): an untrained SYNC region is taken OFFLINE, which counts as taken. -/
def State.unpark (s : State) (r : RegionId) : Except Status State :=
  let g := s.region r
  match g.state with
  | .parked => .ok (if g.ready then s.setRegion r (g.settleFor 50) else (s.enterOffline r).raise (.regionLost r))
  | _ => .error .wrongState

/-- A new training record (R102). -/
def Training.first (lanes : Nat) : Training :=
  { k := 0, seek := List.replicate lanes .zero, samples := List.replicate lanes none, awaiting := false }

/-- The region entering TRAINING (R99). -/
def Region.beginTraining (g : Region) : Region :=
  { g.untrain with state := .training, training := some (.first (busLanes g.clock)) }

/-- TRAIN (R99, R103). -/
def State.train (s : State) (r : RegionId) : Except Status State :=
  let g := s.region r
  match g.state with
  | .offline =>
    if g.clock.sync = false then .error .wrongState
    else if g.burst.isSome then .error .busy
    else .ok ((s.setRegion r g.beginTraining).becomeReady r)
  | _ => .error .wrongState

/-! ## The command over its mask (R91) -/

/-- What a command has done so far: the state, the regions that took the action, and the refusal reasons. -/
structure Progress where
  state : State
  taken : List RegionId
  reasons : List Status

/-- One masked region takes the action or refuses it. -/
def Progress.visit (act : State → RegionId → Except Status State) (x : Progress) (r : RegionId) : Progress :=
  match act x.state r with
  | .ok s => { x with state := s, taken := x.taken ++ [r] }
  | .error e => { x with reasons := x.reasons ++ [e] }

/-- The regions of a mask. DESIGN CHOICE (log entry 33): in ascending number, so the contexts that one OFFLINE or UNPARK
ends in several regions end, and join a delivery list, region by region in that order. -/
def maskedRegions (mask : BitVec 8) : List RegionId := (List.finRange 8).filter fun r => mask.getLsbD r.val

/-- The action on every masked region, in ascending region number (log entry 33). -/
def runRegions (act : State → RegionId → Except Status State) (s : State) (mask : BitVec 8) : Progress :=
  (maskedRegions mask).foldl (Progress.visit act) { state := s, taken := [], reasons := [] }

/-- The status of a REGION_COMMAND (R91): OK where none refused; BUSY or NOT_TRAINED where that one reason was every
refusal's; WRONG_STATE otherwise. -/
def commandStatus (reasons : List Status) : Status :=
  match reasons with
  | [] => .ok
  | e :: rest => if (e = .busy ∨ e = .notTrained) ∧ rest.all (· == e) then e else .wrongState

/-- The result mask word: bit r for region r (Table 12-9). -/
def maskWord (taken : List RegionId) : Word := taken.foldl (fun w r => w ||| (1#32 <<< r.val)) 0

/-- A REGION_COMMAND once admitted (R91, R143). -/
def State.regionCommand (s : State) (p : Port) (h : Hdr) (act : State → RegionId → Except Status State)
    (mask : BitVec 8) : State :=
  if s.mode = .contained then s.respond p h 7 .wrongState [0]
  else
    let x := runRegions act s mask
    x.state.respond p h 7 (commandStatus x.reasons) [maskWord x.taken]

/-- REGION_COMMAND ONLINE (R91, R92). -/
def execRegionCommandOnline (p : Port) (h : Hdr) (mask : BitVec 8) (s : State) : Host.Outcome State Fault Refusal :=
  .next <| s.accept (.regionCommandOnline p h mask) p fun s =>
    s.acceptManage p h 7 fun s => s.regionCommand p h State.online mask

/-- REGION_COMMAND OFFLINE (R91, R94). -/
def execRegionCommandOffline (p : Port) (h : Hdr) (mask : BitVec 8) (s : State) : Host.Outcome State Fault Refusal :=
  .next <| s.accept (.regionCommandOffline p h mask) p fun s =>
    s.acceptManage p h 7 fun s => s.regionCommand p h State.offline mask

/-- REGION_COMMAND PARK (R91, R97). -/
def execRegionCommandPark (p : Port) (h : Hdr) (mask : BitVec 8) (s : State) : Host.Outcome State Fault Refusal :=
  .next <| s.accept (.regionCommandPark p h mask) p fun s =>
    s.acceptManage p h 7 fun s => s.regionCommand p h State.parkRegion mask

/-- REGION_COMMAND UNPARK (R91, R98). -/
def execRegionCommandUnpark (p : Port) (h : Hdr) (mask : BitVec 8) (s : State) : Host.Outcome State Fault Refusal :=
  .next <| s.accept (.regionCommandUnpark p h mask) p fun s =>
    s.acceptManage p h 7 fun s => s.regionCommand p h State.unpark mask

/-- REGION_COMMAND TRAIN (R91, R99). -/
def execRegionCommandTrain (p : Port) (h : Hdr) (mask : BitVec 8) (s : State) : Host.Outcome State Fault Refusal :=
  .next <| s.accept (.regionCommandTrain p h mask) p fun s =>
    s.acceptManage p h 7 fun s => s.regionCommand p h State.train mask

end Sys2Proof.Machine
end

