-- ==== Sys2Proof/Machine/Control.lean ====
section
/-!
DEFINITION. The management requests of the Link Ports, the Integrity Unit and the Management Unit: PORT_CONTROL (R152),
CHECK_CONTROL (R136, R137), PATROL_SET (R138), STATUS_READ (R158), ALERT_CONTROL and ALERT_CLEAR (R156), START (R154),
SOFT_RESET (R155) and CLEAR_CONTAINMENT (R145).
-/

namespace Sys2Proof.Machine

/-! ## PORT_CONTROL (R152) -/

/-- A port's item of a mask, port A in bit 0. -/
def portItem (mask : BitVec 4) (p : Port) : Bool := mask.getLsbD (portIndex p)

/-- The receiver of a port is enabled: where it was disabled, a credit restore is sent with the free slots. -/
def State.enableReceiver (s : State) (p : Port) : State :=
  if (s.port p).rxOn then s
  else (s.setPort p { s.port p with rxOn := true }).signal p (.restore (Config.ingressDepth - (s.port p).ingress.length))

/-- The transmitter of a port is enabled. -/
def State.enableTransmitter (s : State) (p : Port) : State :=
  if (s.port p).txOn then s else (s.setPort p { s.port p with txOn := true }).trySend p

/-- The receiver of a port is disabled; its queued frames stay. -/
def State.disableReceiver (s : State) (p : Port) : State := s.setPort p { s.port p with rxOn := false }

/-- Releases every context of a list, with its response discarded (R36). -/
def State.releaseAll (s : State) (l : List CtxId) : State := l.foldl State.release s

/-- The transmitter of a port is disabled: where it was enabled, its egress queue is emptied and every context of its
delivery list is released; a frame being sent completes. -/
def State.disableTransmitter (s : State) (p : Port) : State :=
  if (s.port p).txOn then
    (s.setPort p { s.port p with txOn := false, egress := [], delivery := [] }).releaseAll (s.port p).delivery
  else s

/-- An ENABLE on one port. -/
def State.enablePort (rx tx : BitVec 4) (s : State) (p : Port) : State :=
  let s := if portItem rx p then s.enableReceiver p else s
  if portItem tx p then s.enableTransmitter p else s

/-- A DISABLE on one port. -/
def State.disablePort (rx tx : BitVec 4) (s : State) (p : Port) : State :=
  let s := if portItem rx p then s.disableReceiver p else s
  if portItem tx p then s.disableTransmitter p else s

/-- PORT_CONTROL ENABLE (R152). -/
def execPortControlEnable (p : Port) (h : Hdr) (rx tx : BitVec 4) (s : State) : Host.Outcome State Fault Refusal :=
  .next <| s.accept (.portControlEnable p h rx tx) p fun s =>
    s.acceptManage p h 8 fun s => ([Port.A, .B, .C, .D].foldl (State.enablePort rx tx) s).respond p h 8 .ok []

/-- PORT_CONTROL DISABLE (R152): refused SELF_LOCKOUT where a mask names the arrival port. -/
def execPortControlDisable (p : Port) (h : Hdr) (rx tx : BitVec 4) (s : State) : Host.Outcome State Fault Refusal :=
  .next <| s.accept (.portControlDisable p h rx tx) p fun s =>
    s.acceptManage p h 8 fun s =>
      if portItem rx p || portItem tx p then s.respond p h 8 .selfLockout []
      else ([Port.A, .B, .C, .D].foldl (State.disablePort rx tx) s).respond p h 8 .ok []

/-! ## CHECK_CONTROL and PATROL_SET (R136 to R138) -/

/-- CHECK_CONTROL ENABLE (R136). -/
def execCheckControlEnable (p : Port) (h : Hdr) (s : State) : Host.Outcome State Fault Refusal :=
  .next <| s.accept (.checkControlEnable p h) p fun s =>
    s.acceptManage p h 9 fun s => { s with checks := true }.respond p h 9 .ok []

/-- No injection pending (R136, R146). -/
def Injection.none : Injection := { table := false, context := false, memory := false, egress := false }

/-- CHECK_CONTROL DISABLE (R136). -/
def execCheckControlDisable (p : Port) (h : Hdr) (s : State) : Host.Outcome State Fault Refusal :=
  .next <| s.accept (.checkControlDisable p h) p fun s =>
    s.acceptManage p h 9 fun s => { s with checks := false, inject := .none }.respond p h 9 .ok []

/-- The checks by their codes (Table 12-8). -/
def checkKind : Nat → Option CheckKind
  | 0 => some .table
  | 1 => some .context
  | 2 => some .memory
  | 3 => some .egress
  | _ => none

/-- CHECK_CONTROL INJECT (R137): the flag is set after the command's own response has been assembled and examined. DEDUCED
(log entry 37): that response meets an EGRESS injection that is already pending, which withholds it. -/
def execCheckControlInject (p : Port) (h : Hdr) (check : Nat) (s : State) : Host.Outcome State Fault Refusal :=
  .next <| s.accept (.checkControlInject p h check) p fun s =>
    s.acceptManage p h 9 fun s =>
      match checkKind check with
      | none => s.respond p h 9 .badValue []
      | some k =>
        if s.checks = false then s.respond p h 9 .wrongState []
        else
          let s := s.respond p h 9 .ok []
          { s with inject := s.inject.arm k }

/-- PATROL_SET (R138). -/
def execPatrolSet (p : Port) (h : Hdr) (interval : Nat) (s : State) : Host.Outcome State Fault Refusal :=
  .next <| s.accept (.patrolSet p h interval) p fun s =>
    s.acceptManage p h 10 fun s =>
      if 255 < interval then s.respond p h 10 .badValue []
      else { s with patrolInterval := interval }.respond p h 10 .ok []

/-! ## Status and alerts (R156, R158) -/

/-- STATUS_READ (R158). -/
def execStatusRead (p : Port) (h : Hdr) (s : State) : Host.Outcome State Fault Refusal :=
  .next <| s.accept (.statusRead p h) p fun s =>
    s.acceptManage p h 11 fun s => s.respond p h 11 .ok s.statusWords

/-- ALERT_CONTROL ENABLE (R156). -/
def execAlertControlEnable (p : Port) (h : Hdr) (kinds : BitVec 9) (s : State) : Host.Outcome State Fault Refusal :=
  .next <| s.accept (.alertControlEnable p h kinds) p fun s =>
    s.acceptManage p h 12 fun s => { s with alertMask := s.alertMask ||| kinds }.respond p h 12 .ok []

/-- ALERT_CONTROL DISABLE (R156). -/
def execAlertControlDisable (p : Port) (h : Hdr) (kinds : BitVec 9) (s : State) : Host.Outcome State Fault Refusal :=
  .next <| s.accept (.alertControlDisable p h kinds) p fun s =>
    s.acceptManage p h 12 fun s => { s with alertMask := s.alertMask &&& ~~~kinds }.respond p h 12 .ok []

/-- ALERT_CLEAR (R156). -/
def execAlertClear (p : Port) (h : Hdr) (flags : BitVec 64) (s : State) : Host.Outcome State Fault Refusal :=
  .next <| s.accept (.alertClear p h flags) p fun s =>
    s.acceptManage p h 13 fun s => { s with alerts := s.alerts &&& ~~~flags }.respond p h 13 .ok []

/-! ## Device modes (R145, R154, R155) -/

/-- START (R154). -/
def execStart (p : Port) (h : Hdr) (s : State) : Host.Outcome State Fault Refusal :=
  .next <| s.accept (.start p h) p fun s =>
    s.acceptManage p h 14 fun s =>
      if s.mode = .config then { s with mode := .run }.respond p h 14 .ok [] else s.respond p h 14 .wrongState []

/-- What freeing every context does to a region (R155 step 1): its queue is emptied, its turn pointer reset, patrol-due
cleared with the patrol read in progress, and its burst in flight abandoned. -/
def Region.freed (g : Region) : Region := { g.dropPatrol with queue := [], turn := 0 }.abandonBurst

/-- What SOFT_RESET does to a port (R155 step 3): its queues and delivery list are emptied, and a credit restore of 8 is
sent where its receiver is enabled. A frame being sent goes on. -/
def PortState.emptied (x : PortState) : PortState :=
  { x with
    ingress := [], egress := [], delivery := [],
    signals := if x.rxOn then x.signals ++ [.restore Config.ingressDepth] else x.signals }

/-- The first five steps of SOFT_RESET (R155). -/
def State.softReset (s : State) : State :=
  { s with
    ctxs := Vector.replicate 32 .free, counts := Vector.replicate 64 0, regions := s.regions.map Region.freed,
    cursors := Vector.replicate 128 .unset,
    ports := { a := s.ports.a.emptied, b := s.ports.b.emptied, c := s.ports.c.emptied, d := s.ports.d.emptied },
    alerts := 0, raised := 0, mode := .config }

/-- SOFT_RESET (R155). -/
def execSoftReset (p : Port) (h : Hdr) (s : State) : Host.Outcome State Fault Refusal :=
  .next <| s.accept (.softReset p h) p fun s =>
    s.acceptManage p h 15 fun s =>
      if s.mode = .contained then s.respond p h 15 .wrongState [] else s.softReset.respond p h 15 .ok []

/-- The region after the HALTED exit mapping (Table 6-5, R101); its recorded prior state and action are cleared. -/
def Region.leaveHalted (g : Region) : Region :=
  let x := { g with prior := none, priorAction := none }
  match g.prior, g.priorAction with
  | some .parked, _ => x.park
  | some .quiescing, some .park => x.park
  | some .settling, _ => if g.ready then x.settleFor 10 else x.goOffline
  | some .online, _ => if g.ready then x.settleFor 10 else x.goOffline
  | some .quiescing, _ => if g.ready then x.settleFor 10 else x.goOffline
  | _, _ => x.goOffline

/-- The effects of a CLEAR_CONTAINMENT that is taken (R145): the prior mode, the FAIL pin, the regions, the record. -/
def State.clearContainment (s : State) : State :=
  { s with
    mode := (match s.record with
      | some c => c.prior
      | none => .config),
    failPin := false, regions := s.regions.map Region.leaveHalted, record := none }

/-- CLEAR_CONTAINMENT (R145). -/
def execClearContainment (p : Port) (h : Hdr) (s : State) : Host.Outcome State Fault Refusal :=
  .next <| s.accept (.clearContainment p h) p fun s =>
    s.acceptManage p h 16 fun s =>
      if s.mode ≠ .contained then s.respond p h 16 .wrongState []
      else if s.poisonedSize ≠ 0 then s.respond p h 16 .poisoned []
      else s.clearContainment.respond p h 16 .ok []

end Sys2Proof.Machine
end

