-- ==== Sys2Proof/Machine/Data.lean ====
section
/-!
DEFINITION. The acceptance of data frames: READ, WRITE, COMPARE_SWAP (Chapter 2), APPEND and JOURNAL_RESTART (Chapter 8),
CURSOR_SET, CURSOR_READ, CURSOR_WRITE and CURSOR_QUERY (Chapter 9).
-/

namespace Sys2Proof.Machine

/-! ## Checks 7 to 9 and the context (R23, R24) -/

/-- The FREE context of the lowest index (R24). -/
def State.freeCtx (s : State) : Option CtxId := (List.finRange 32).find? fun i => (s.ctx i).state = .free

/-- A request is given a context: its record is set, its source's count rises by one, it enters the tail of its region's
queue, and a cursor step marks its cursor (R24). -/
def State.allocate (s : State) (i : CtxId) (c : Context) : State :=
  let s := ((s.setCtx i c).setCount c.source (s.count c.source + 1)).enterQueue c.region i
  if c.kind.isCursor then s.setCursor c.source c.cursor { s.cursor c.source c.cursor with inFlight := true } else s

/-- Check 7: the region of the first access is not OFFLINE or TRAINING (R23). -/
def RegionState.admitsContexts : RegionState → Bool
  | .offline => false
  | .training => false
  | .settling => true
  | .online => true
  | .quiescing => true
  | .parked => true
  | .halted => true

/-- Checks 7 to 9, and the context of a frame that passes them; its region may take a turn at once (R23, R24, R57). -/
def State.admission (s : State) (p : Port) (h : Hdr) (code : Nat) (c : Context) : State :=
  if (s.region c.region).state.admitsContexts = false then s.respond p h code .regionOffline []
  else if (s.source h.src).limit ≤ s.count h.src then s.respond p h code .busy []
  else
    match s.freeCtx with
    | none => s.respond p h code .noContext []
    | some i => (s.allocate i c).takeTurn c.region

/-- The fields of a new context that come from the frame (Table 2-4). -/
def newContext (p : Port) (h : Hdr) (k : ReqKind) (ring : Ring) (payload : List Word) : Context :=
  { Context.free with
    state := .waiting, stage := .main, kind := k, source := h.src, tag := h.tag, port := p, ring := ring,
    payload := payload }

/-- The context of a READ, WRITE or COMPARE_SWAP: resolved on the segment, or in stage LINK on an INDIRECT one (R17, R43). -/
def accessContext (p : Port) (h : Hdr) (k : ReqKind) (d : Descriptor) (eff ring : Ring) (f n : Nat)
    (payload : List Word) : Context :=
  let c := { newContext p h k eff payload with opOffset := f, opLength := n, opRing := ring }
  if d.kind = .indirect then c.toLink d else c.resolve d f n

/-- The context of an APPEND or a JOURNAL_RESTART: a writer of the whole journal segment (R110, R120). -/
def journalContext (p : Port) (h : Hdr) (k : ReqKind) (d : Descriptor) (eff ring : Ring) (f : Nat)
    (payload : List Word) : Context :=
  { newContext p h k eff payload with
    region := d.region, addr := d.base, first := d.base, last := d.base + d.limit, length := 1,
    step := (if k = .append then .anchorRead else .freshWrite), opOffset := f, opRing := ring }

/-- The context of a cursor step (R128). -/
def cursorContext (p : Port) (h : Hdr) (k : ReqKind) (d : Descriptor) (idx : Fin 2) (cu : Cursor)
    (payload : List Word) : Context :=
  let q := roundedPos cu.pos cu.size
  let a := d.base + q / 4
  { newContext p h k cu.ring payload with
    region := d.region, addr := a, first := a, last := a + itemWords cu.size, length := itemWords cu.size,
    cursor := idx, curPos := cu.pos, curRounded := q, curSize := cu.size }

/-- Check 6 for a data frame that names a segment, with the TABLE check point of the descriptor read (R14, R19): a
segment that passes goes on with `body`, its descriptor and the effective ring of R12. -/
def State.onSegment (s : State) (p : Port) (h : Hdr) (code : Nat) (seg : SegNo) (k : ReqKind) (ring : Ring) (f n : Nat)
    (body : Descriptor → State → State) : State :=
  if s.segmentFaults seg then (s.faultAt .table (.segment seg)).respond p h code .contained []
  else
    match translateRequest (s.segment seg) k ring f n with
    | some st => s.respond p h code st []
    | none => body (s.segment seg) s

/-- The acceptance of READ, WRITE and COMPARE_SWAP (R20). -/
def State.acceptAccess (s : State) (p : Port) (h : Hdr) (k : ReqKind) (seg : SegNo) (ring : Ring) (f n : Nat)
    (payload : List Word) : State :=
  s.acceptData p h k.code fun s =>
    let eff := weaker (s.source h.src).ring ring
    s.onSegment p h k.code seg k eff f n fun d s => s.admission p h k.code (accessContext p h k d eff ring f n payload)

/-- The acceptance of APPEND and JOURNAL_RESTART (R110). -/
def State.acceptJournal (s : State) (p : Port) (h : Hdr) (k : ReqKind) (seg : SegNo) (ring : Ring) (f : Nat)
    (payload : List Word) : State :=
  s.acceptData p h k.code fun s =>
    let eff := weaker (s.source h.src).ring ring
    s.onSegment p h k.code seg k eff f 0 fun d s => s.admission p h k.code (journalContext p h k d eff ring f payload)

/-- Check 5 for a cursor step (Table 9-2): a refusal with its result words, or none. -/
def Cursor.stepRefusal (cu : Cursor) : Option (Status × List Word) :=
  if cu.isSet = false then some (.cursorUnset, [])
  else if cu.inFlight then some (.cursorBusy, [])
  else if cu.count = 0 then some (.exhausted, [word cu.pos, word cu.count])
  else none

/-- The acceptance of CURSOR_READ and CURSOR_WRITE (R125, R128). -/
def State.acceptCursorStep (s : State) (p : Port) (h : Hdr) (k : ReqKind) (idx : Fin 2) (payload : List Word) : State :=
  s.acceptData p h k.code fun s =>
    let cu := s.cursor h.src idx
    match cu.stepRefusal with
    | some (st, ws) => s.respond p h k.code st ws
    | none =>
      s.onSegment p h k.code cu.segment k cu.ring (roundedPos cu.pos cu.size) cu.size fun d s =>
        s.admission p h k.code (cursorContext p h k d idx cu payload)

/-! ## The commands -/

/-- READ (R20, R29, R43, R73). -/
def execRead (p : Port) (h : Hdr) (seg : SegNo) (ring : Ring) (off len : Nat) (s : State) :
    Host.Outcome State Fault Refusal :=
  .next <| s.accept (.read p h seg ring off len) p fun s => s.acceptAccess p h .read seg ring off len []

/-- WRITE (R20, R30, R43). -/
def execWrite (p : Port) (h : Hdr) (seg : SegNo) (ring : Ring) (off len : Nat) (payload : List Word) (s : State) :
    Host.Outcome State Fault Refusal :=
  .next <| s.accept (.write p h seg ring off len payload) p fun s =>
    s.acceptAccess p h .write seg ring off len payload

/-- COMPARE_SWAP (R20, R34, R43). -/
def execCompareSwap (p : Port) (h : Hdr) (seg : SegNo) (ring : Ring) (off : Nat) (expected new : Word) (s : State) :
    Host.Outcome State Fault Refusal :=
  .next <| s.accept (.compareSwap p h seg ring off expected new) p fun s =>
    s.acceptAccess p h .compareSwap seg ring off 1 [expected, new]

/-- APPEND (R110, R113). -/
def execAppend (p : Port) (h : Hdr) (seg : SegNo) (ring : Ring) (payload : List Word) (s : State) :
    Host.Outcome State Fault Refusal :=
  .next <| s.accept (.append p h seg ring payload) p fun s => s.acceptJournal p h .append seg ring 0 payload

/-- JOURNAL_RESTART (R110, R120). -/
def execJournalRestart (p : Port) (h : Hdr) (seg : SegNo) (ring : Ring) (first : Nat) (s : State) :
    Host.Outcome State Fault Refusal :=
  .next <| s.accept (.journalRestart p h seg ring first) p fun s => s.acceptJournal p h .journalRestart seg ring first []

/-- Check 6 of CURSOR_SET (R126): presence, kind, and the byte position inside the segment. -/
def Descriptor.cursorSetRefusal (d : Descriptor) (pos : Nat) : Option Status :=
  if d.kind = .absent then some .noSegment
  else if d.kind ≠ .direct then some .kindMismatch
  else if d.limit * 4 ≤ pos then some .bounds
  else none

/-- CURSOR_SET (R126): taken and answered in its acceptance event. -/
def execCursorSet (p : Port) (h : Hdr) (cur : Fin 2) (seg : SegNo) (ring : Ring) (pos count size : Nat) (s : State) :
    Host.Outcome State Fault Refusal :=
  .next <| s.accept (.cursorSet p h cur seg ring pos count size) p fun s =>
    s.acceptData p h 8 fun s =>
      if (s.cursor h.src cur).isSet && (s.cursor h.src cur).inFlight then s.respond p h 8 .cursorBusy []
      else if s.segmentFaults seg then (s.faultAt .table (.segment seg)).respond p h 8 .contained []
      else
        match (s.segment seg).cursorSetRefusal pos with
        | some st => s.respond p h 8 st []
        | none =>
          (s.setCursor h.src cur
            { isSet := true, segment := seg, pos := pos, count := count, size := size,
              ring := weaker (s.source h.src).ring ring, inFlight := false }).respond p h 8 .ok []

/-- CURSOR_READ (R125, R128). -/
def execCursorRead (p : Port) (h : Hdr) (cur : Fin 2) (s : State) : Host.Outcome State Fault Refusal :=
  .next <| s.accept (.cursorRead p h cur) p fun s => s.acceptCursorStep p h .cursorRead cur []

/-- CURSOR_WRITE (R125, R128). -/
def execCursorWrite (p : Port) (h : Hdr) (cur : Fin 2) (low high : Word) (s : State) : Host.Outcome State Fault Refusal :=
  .next <| s.accept (.cursorWrite p h cur low high) p fun s => s.acceptCursorStep p h .cursorWrite cur [low, high]

/-- CURSOR_QUERY (R127): answered with the whole record. -/
def execCursorQuery (p : Port) (h : Hdr) (cur : Fin 2) (s : State) : Host.Outcome State Fault Refusal :=
  .next <| s.accept (.cursorQuery p h cur) p fun s =>
    s.acceptData p h 11 fun s => s.respond p h 11 .ok (cursorWords (s.cursor h.src cur))

end Sys2Proof.Machine
end

