-- ==== Sys2Proof/Machine/Engine.lean ====
section
/-!
DEFINITION. The events of the Region Engines: BURST_COMPLETION with what each access's end does (R64; Chapters 2, 3, 8, 9
and 10), READY_TIMEOUT (R68, R69), ABANDONED_BURST_END (R66), SETTLE_EXPIRY (R93) and PATROL_INTERVAL_EXPIRY (R138).
-/

namespace Sys2Proof.Machine

/-! ## The end of an access -/

/-- What the end of an access comes to: the context goes on with its next access, or ends. -/
inductive Verdict where
  | plan (c : Context)
  | ends (status : Status) (results : List Word)
  deriving DecidableEq, Repr

/-- The append goes on with the access of a step, with these working values (R113). -/
def Context.goOn (c : Context) (step : AppendStep) (w : Working) : Verdict :=
  .plan { c with step := step, result := w.toResult c.result, pieces := none }

/-- An offset at which a block header can stand: 1 ≤ x and x + 3 ≤ limit (R114, R117). -/
def headerFits (limit x : Nat) : Bool := decide (1 ≤ x) && decide (x + 3 ≤ limit)

/-- The fit decision of a block whose header has been read (R115 to R117). -/
def Context.fitDecision (c : Context) (limit : Nat) (w : Working) : Verdict :=
  if w.fill + 1 + c.payload.length ≤ w.size then c.goOn .recordWrite w
  else if w.hopped then .ends .recordTooLarge []
  else if w.next = 0 then .ends .journalFull []
  else if headerFits limit w.next then c.goOn .sizeRead w
  else .ends .journalBroken []

/-- The completion of an append's access (Table 8-2, R114 to R117). -/
def Context.appendStep (c : Context) : Verdict :=
  let limit := c.last - c.first
  let w := Working.ofResult c.result
  match c.step with
  | .anchorRead =>
    let w := { w with c := offsetField (c.scratch.getD 0 0) }
    if headerFits limit w.c then c.goOn .headerRead w else .ends .journalBroken []
  | .headerRead =>
    let w := { w with fill := fillField (c.scratch.getD 0 0), s := lowHalf (c.scratch.getD 0 0),
                      size := lowHalf (c.scratch.getD 1 0), next := offsetField (c.scratch.getD 2 0) }
    if 4 ≤ w.size ∧ w.c + w.size ≤ limit ∧ 3 ≤ w.fill ∧ w.fill ≤ w.size then c.fitDecision limit w
    else .ends .journalBroken []
  | .sizeRead =>
    let w := { w with size := lowHalf (c.scratch.getD 0 0) }
    if 4 ≤ w.size ∧ w.next + w.size ≤ limit then c.goOn .freshWrite w else .ends .journalBroken []
  | .freshWrite => c.goOn .anchorWrite w
  | .anchorWrite => c.fitDecision limit { w with c := w.next, fill := 3, hopped := true }
  | .recordWrite => c.goOn .commit w
  | .commit => .ends .ok [word w.s, word (w.c + w.fill)]

/-- The completion of a JOURNAL_RESTART's access (R120). -/
def Context.restartStep (c : Context) : Verdict :=
  match c.step with
  | .freshWrite => .plan { c with step := .anchorWrite, pieces := none }
  | _ => .ends .ok []

/-- The completion of a COMPARE_SWAP's access (R34): after the read, the comparison in all 32 bits. -/
def Context.swapStep (c : Context) : Verdict :=
  let old := c.result.getD 0 0
  if c.progress ≠ 1 then .ends .ok [old]
  else if old = c.payload.getD 0 0 then .plan { c with pieces := none }
  else .ends .compareFailed [old]

/-- Carries a verdict out. -/
def State.settle (s : State) (i : CtxId) : Verdict → State
  | .plan c => s.setCtx i c
  | .ends st ws => s.endCtx i st ws

/-! ## Cursor steps (R130) -/

/-- The stepped cursor: its position advances from p by the item size, its count falls by one, its marker is clear. -/
def Cursor.stepped (cu : Cursor) (c : Context) : Cursor :=
  { cu with pos := c.curPos + c.curSize, count := cu.count - 1, inFlight := false }

/-- The item's two words that a CURSOR_READ returns (R129); a CURSOR_WRITE returns none. -/
def Context.itemWords (c : Context) : List Word :=
  match c.kind with
  | .cursorRead =>
    let x := itemRead c.curRounded c.curSize (c.result.getD 0 0) (c.result.getD 1 0)
    [x.1, x.2]
  | _ => []

/-- The completion of a cursor step (R130). -/
def State.cursorCompletion (s : State) (i : CtxId) : State :=
  let c := s.ctx i
  let cu := (s.cursor c.source c.cursor).stepped c
  (s.setCursor c.source c.cursor cu).endCtx i .ok (c.itemWords ++ [word cu.pos, word cu.count])

/-! ## Link completion (R42, R45 to R48) -/

/-- Checks 2 to 6 of Table 3-3 on the target descriptor, at target offset `t` and with the second effective ring. -/
def linkRefusal (d : Descriptor) (k : ReqKind) (ring : Ring) (t n : Nat) : Option Status :=
  if d.kind = .absent then some .noSegment
  else if d.kind = .indirect then some .indirectLoop
  else if d.kind = .journal then some .kindMismatch
  else if d.inside k t n = false then some .bounds
  else if d.admits k ring = false then some .ringDenied
  else none

/-- The move of a context to stage MAIN (R47): out of the link word's queue and to the tail of the target's. -/
def State.moveToTarget (s : State) (i : CtxId) (d : Descriptor) (ring : Ring) (t : Nat) : State :=
  let c := s.ctx i
  ((s.leaveQueue c.region i).setCtx i ({ c with ring := ring }.resolve d t c.opLength)).enterQueue d.region i

/-- The ring field of a link word (Table 12-10). -/
def linkRing (w0 : Word) : Ring := Fin.ofNat 4 (field w0 12 2)

/-- The target segment of a link word. -/
def linkTarget (w0 : Word) : SegNo := Fin.ofNat 512 (field w0 0 9)

/-- Link completion (R45): the link word in the context's result buffer, then the target. -/
def State.linkCompletion (s : State) (i : CtxId) : State :=
  let c := s.ctx i
  let w0 := c.result.getD 0 0
  if flagBit w0 31 then s.endCtx i .pointerFault [word (lowHalf w0)]
  else if s.segmentFaults (linkTarget w0) then s.faultAt .table (.segment (linkTarget w0))
  else
    let d := s.segment (linkTarget w0)
    let t := field (c.result.getD 1 0) 0 24 + c.opOffset
    let ring := weaker c.ring (linkRing w0)
    match linkRefusal d c.kind ring t c.opLength with
    | some st => s.endCtx i st []
    | none =>
      if (s.region d.region).state = .offline ∨ (s.region d.region).state = .training then s.endCtx i .regionOffline []
      else s.moveToTarget i d ring t

/-- The end of a context's access (R64): the result its stage and request kind take. -/
def State.accessEnd (s : State) (i : CtxId) : State :=
  let c := s.ctx i
  match c.stage, c.kind with
  | .link, _ => s.linkCompletion i
  | .main, .read => s.endCtx i .ok (c.result.take c.length)
  | .main, .write => s.endCtx i .ok []
  | .main, .compareSwap => s.settle i c.swapStep
  | .main, .append => s.settle i c.appendStep
  | .main, .journalRestart => s.settle i c.restartStep
  | .main, .cursorRead => s.cursorCompletion i
  | .main, .cursorWrite => s.cursorCompletion i

/-! ## The patrol read (R60, R139) -/

/-- The first place where the words read differ from the pattern. -/
def firstDifference (words pattern : List Word) : Option Nat :=
  (List.range 4).find? fun k => words.getD k 0 != pattern.getD k 0

/-- The comparison of the four patrol words (R139). -/
def State.comparePatrol (s : State) (r : RegionId) (pr : PatrolRead) : State :=
  match firstDifference pr.words pr.pattern.toList with
  | none => s
  | some k => if s.checks then s.takeFault (.patrol r (pr.addr + k)) else s.raise (.patrolMismatch r)

/-- The completion of a patrol burst (R60, R64): the words are kept, and after the last burst they are compared. A region
that has left ONLINE has abandoned its patrol read. -/
def State.patrolCompletion (s : State) (r : RegionId) (words : List Word) : State :=
  let g := s.region r
  match g.state, g.patrolRead with
  | .online, some pr =>
    let pr := { pr with words := pr.words ++ words }
    if pr.rest.isEmpty then (s.setRegion r { g with due := false, patrolRead := none }).comparePatrol r pr
    else s.setRegion r { g with patrolRead := some pr }
  | _, _ => s

/-! ## BURST_COMPLETION (R64) -/

/-- The burst leaves the bus, and a written patrol group enters the profile (R88). -/
def Region.endBurst (g : Region) : Region := { g with burst := none }.admitPatrol

/-- The MEMORY check point of a completed read burst (R134, R137): the region word address of the first word that takes a
pending injection or shows a parity mismatch. -/
def State.memoryFault (s : State) (b : Burst) (samples : List (Nat × Word × Bool)) : Option Nat :=
  if s.checks && b.clock.parityLane then
    (samples.find? fun w => s.inject.memory || !w.2.2).map fun w => w.1
  else none

/-- The context's progress and result buffer after a burst (R28, R64). -/
def State.advance (s : State) (i : CtxId) (b : Burst) (ws : List (Nat × Word)) : State :=
  let c := s.ctx i
  s.setCtx i { c.place ws with progress := c.progress + b.len, parityOk := true }

/-- The completion of a context's burst (R64). -/
def State.contextCompletion (s : State) (i : CtxId) (b : Burst) (ws : List (Nat × Word)) : State :=
  let s := s.advance i b ws
  if (s.ctx i).pieces = some [] then s.accessEnd i else s

/-- What follows the processing of a completion: the pending action of QUIESCING, the delivery lists, and the turns of the
region a context has moved to and of the region itself (R57, R96, R151; log entries 9 and 11). -/
def State.afterBurst (s : State) (r : RegionId) (moved : List RegionId) : State :=
  ((s.carryOut r).serveAll).takeTurns (moved ++ [r])

/-- The region a context waits in after its completion, where it has moved to stage MAIN. -/
def State.movedTo (s : State) (i : CtxId) : List RegionId :=
  if (s.ctx i).state = .waiting then [(s.ctx i).region] else []

/-- The burst off the bus, its words moved on the device, and the pins free (R71). -/
def State.burstMoved (s : State) (r : RegionId) (b : Burst) (taken : Nat → Bool) : State :=
  { s.setRegion r (s.region r).endBurst with mem := b.land r taken s.mem, pins := none }

/-- The completion of the burst `b` in flight in region `r`, once its words have been sampled (R64). -/
def State.completeBurst (s : State) (r : RegionId) (b : Burst) (samples : List (Nat × Word × Bool)) : State :=
  match s.memoryFault b samples with
  | some a => s.faultAt .memory (.memory r a)
  | none =>
    match b.owner with
    | .ctx i =>
      let s := s.contextCompletion i b (samples.map fun w => (w.1, w.2.1))
      s.afterBurst r (s.movedTo i)
    | .patrol => (s.patrolCompletion r (samples.map fun w => w.2.1)).afterBurst r []

/-- BURST_COMPLETION (R64). A region with no burst in flight has no such event, nor has one whose burst waits for the pins
(R71); an abandoned burst's completion is ignored (R66, log entry 1). -/
def execBurstCompletion (r : RegionId) (dev : List BusDeviation) (s : State) : Host.Outcome State Fault Refusal :=
  match (s.region r).burst with
  | none => .next s
  | some b =>
    if b.abandoned ∨ s.pins ≠ some r then .next s
    else if b.inRange = false then .fault .addressBeyondRegion
    else .next ((s.burstMoved r b fun _ => true).completeBurst r b (b.samples r dev s.mem)).finish

/-! ## ABANDONED_BURST_END and READY_TIMEOUT (R66 to R69) -/

/-- The end of an abandoned burst (R66): QUIESCING carries its action out, and a turn may be taken. -/
def State.endAbandoned (s : State) (r : RegionId) (b : Burst) (taken : Nat → Bool) : State :=
  (s.burstMoved r b taken).afterBurst r []

/-- ABANDONED_BURST_END (R66): the burst has run to its end, or its select is released by the ready limit after `n` of its
words. A burst that waits for the pins has not begun its issue phase (R71, log entry 1). -/
def execAbandonedBurstEnd (r : RegionId) (release : Option Nat) (s : State) : Host.Outcome State Fault Refusal :=
  match (s.region r).burst with
  | none => .next s
  | some b =>
    if b.abandoned = false ∨ s.pins ≠ some r then .next s
    else if b.inRange = false then .fault .addressBeyondRegion
    else
      match release with
      | none => .next (s.endAbandoned r b fun _ => true).finish
      | some n =>
        if b.timing.monitor && decide (n < b.len) then .next (s.endAbandoned r b fun k => decide (k < n)).finish
        else .next s

/-- Which words of a timed-out burst have been moved (R68): those before word `moved`, and word `moved` itself as the free
value says (log entry 4). -/
def State.timeoutTaken (s : State) (moved k : Nat) : Bool :=
  decide (k < moved) || (k == moved && Config.wordLands s.freeCount)

/-- The ready timeout of a burst in flight (R68, R69). -/
def State.timeOut (s : State) (r : RegionId) (b : Burst) (moved : Nat) : State :=
  let s := { s.burstMoved r b (s.timeoutTaken moved) with freeCount := s.freeCount + 1 }
  let s :=
    match b.owner with
    | .ctx i => s.endCtx i .deviceTimeout []
    | .patrol => s
  (s.enterOffline r).raise (.regionLost r)

/-- READY_TIMEOUT (R67 to R69), after `moved` words of the burst. It falls on a burst under ready monitoring with a word
still to move, and on no other; the ready count of a burst that waits for the pins does not run (R71, log entry 1). -/
def execReadyTimeout (r : RegionId) (moved : Nat) (s : State) : Host.Outcome State Fault Refusal :=
  match (s.region r).burst with
  | none => .next s
  | some b =>
    if (b.timing.monitor && decide (moved < b.len)) = false ∨ s.pins ≠ some r then .next s
    else if b.inRange = false then .fault .addressBeyondRegion
    else if b.abandoned then .next (s.endAbandoned r b fun k => decide (k < moved)).finish
    else if (s.region r).state = .online ∨ (s.region r).state = .quiescing then .next (s.timeOut r b moved).finish
    else .next s

/-! ## The timers of regions and patrols (R93, R138) -/

/-- SETTLE_EXPIRY (R93). -/
def execSettleExpiry (r : RegionId) (s : State) : Host.Outcome State Fault Refusal :=
  .next
    (if (s.region r).state = .settling then
      ((s.setRegion r { s.region r with state := .online, settle := none }).takeTurn r).finish
    else s)

/-- The regions that a patrol interval expiry marks (R138). -/
def State.patrolled (s : State) : List RegionId :=
  (List.finRange 8).filter fun r => (s.region r).state = .online && (s.region r).patrol.enable

/-- A region with its patrol-due flag set. -/
def State.markDue (s : State) (r : RegionId) : State := s.setRegion r { s.region r with due := true }

/-- PATROL_INTERVAL_EXPIRY (R138): in RUN, patrol-due is set on each ONLINE region with patrol enabled. DESIGN CHOICE (log
entry 32): every flag is set before the first turn is taken, and the turns are taken in ascending region number. With the
timer stopped there is no such event (log entry 1). -/
def execPatrolIntervalExpiry (s : State) : Host.Outcome State Fault Refusal :=
  .next
    (if s.patrolInterval ≠ 0 ∧ s.mode = .run then ((s.patrolled.foldl State.markDue s).takeTurns s.patrolled).finish
    else s)

end Sys2Proof.Machine
end

