-- ==== Sys2Proof/Machine/Link.lean ====
section
/-!
DEFINITION. The reset and link events: DEVICE_RESET (R159), FRAME_ARRIVAL (R147), LINK_CREDIT, PARTNER_CREDIT_RESTORE
and FRAME_SENT (R150), and the acceptance of an UNDECODABLE_FRAME (R21, R153, R160).
-/

namespace Sys2Proof.Machine

/-- A burst in flight at a device reset is carried out on the device whole (R38). DEDUCED (log entry 35): a burst of an APPEND
or a JOURNAL_RESTART is not, since R121 and R123 leave each of its words old or new. DESIGN CHOICE (log entry 31): nor is an
abandoned burst that is still on its bus, for which the spec states nothing of its own. -/
def State.carriedOut (s : State) (b : Burst) : Bool :=
  !b.abandoned &&
    match b.owner with
    | .ctx i => !(s.ctx i).kind.isJournal
    | .patrol => true

/-- Attached memory after a device reset has taken every burst off its bus: a burst that is carried out has written all its
words, and each word of any other write burst holds its old or its new value, as the free value says (R38, R121, R123; log
entry 4). -/
def State.memAfterReset (s : State) : Memory :=
  (List.finRange 8).foldl
    (fun m r =>
      match (s.region r).burst with
      | some b => b.land r (fun k => s.carriedOut b || Config.wordLands (s.freeCount + 16 * r.val + k)) m
      | none => m)
    s.mem

/-- DEVICE_RESET (R1, R8, R38, R90, R102, R103, R124, R136, R146, R159): every item takes its device reset value and a
credit restore of 8 is sent on port A. Attached memory is not cleared; the commands that wait, the free value's counter
and the record of what was sent to the partners are no state of the part (log entry 23). -/
def execDeviceReset (s : State) : Host.Outcome State Fault Refusal :=
  .next
    { State.reset with
      mem := s.memAfterReset, freeCount := s.freeCount + 128, pending := s.pending,
      ports :=
        { a := { PortState.reset true with signals := s.ports.a.signals ++ [.restore 8] },
          b := { PortState.reset false with signals := s.ports.b.signals },
          c := { PortState.reset false with signals := s.ports.c.signals },
          d := { PortState.reset false with signals := s.ports.d.signals } } }

/-- What a frame's arrival does before the event ends (R147, steps 1 to 4; R148). -/
def State.arrive (s : State) (p : Port) (ws : List Word) (ragged : Bool) : State :=
  let x := s.port p
  if x.rxOn = false then s
  else if goodFrame ws ragged = false then
    (if x.ingress.length < Config.ingressDepth then s.signal p .credit else s).raise (.frameError p)
  else if Config.ingressDepth ≤ x.ingress.length then s.raise (.overrun p)
  else s.setPort p { x with ingress := x.ingress ++ [ws] }

/-- FRAME_ARRIVAL (R147). -/
def execFrameArrival (p : Port) (ws : List Word) (ragged : Bool) (s : State) : Host.Outcome State Fault Refusal :=
  .next (s.arrive p ws ragged).finish

/-- LINK_CREDIT (R150): the transmit credit count is raised, and the head frame may begin to be sent. -/
def execLinkCredit (p : Port) (s : State) : Host.Outcome State Fault Refusal :=
  .next ((s.setPort p { s.port p with txCredits := (s.port p).txCredits + 1 }).trySend p).finish

/-- PARTNER_CREDIT_RESTORE (R150): the transmit credit count is set, and the head frame may begin to be sent. -/
def execPartnerCreditRestore (p : Port) (credits : Nat) (s : State) : Host.Outcome State Fault Refusal :=
  .next ((s.setPort p { s.port p with txCredits := credits }).trySend p).finish

/-- FRAME_SENT (R150): the transmitter is idle again, and the next head frame may begin to be sent. A port that is sending
nothing has no such event (log entry 1). -/
def execFrameSent (p : Port) (s : State) : Host.Outcome State Fault Refusal :=
  .next
    (if (s.port p).sending.isSome then ((s.setPort p { s.port p with sending := none }).trySend p).finish else s)

/-- UNDECODABLE_FRAME (R21, R160): answered BAD_REQUEST with its source ID, tag and request code echoed, before the source
is looked at. A management frame whose action or group code names no row is admitted like every management frame and
answered BAD_VALUE (R85, R91, R136, R152, R156; log entry 6). -/
def execUndecodableFrame (p : Port) (ws : List Word) (s : State) : Host.Outcome State Fault Refusal :=
  let hd := ws.headD 0
  let h := frameHdr hd
  let code := frameCode hd
  .next <| s.accept (.undecodableFrame p ws) p fun s =>
    if frameClass hd == 1 && unlistedAction code (frameBody ws) then
      s.acceptManage p h code fun s => s.respond p h code .badValue []
    else s.respond p h code .badRequest []

end Sys2Proof.Machine
end

