-- ==== Sys2Proof/Machine/Profile.lean ====
section
/-!
DEFINITION. Region profiles: PROFILE_WRITE of the clock, timing and patrol groups (R85 to R88) and PROFILE_READ (R89).
-/

namespace Sys2Proof.Machine

/-- The region operand as a region, where it is 0 to 7. -/
def regionIndex (r : Nat) : Option RegionId := if h : r < 8 then some ⟨r, h⟩ else none

/-- The clock fields lie in Table 6-1 (R85). -/
def validClock (g : ClockGroup) : Bool := decide (1 ≤ g.divider) && decide (g.divider ≤ 8)

/-- A burst length of Table 6-1. -/
def isBurstLength (n : Nat) : Bool := n == 1 || n == 4 || n == 8 || n == 16

/-- A page length of Table 6-1: a power of two from 16 to 1,024. -/
def isPageLength (n : Nat) : Bool :=
  n == 16 || n == 32 || n == 64 || n == 128 || n == 256 || n == 512 || n == 1024

/-- The timing fields lie in Table 6-1 (R85). -/
def validTiming (g : TimingGroup) : Bool :=
  isBurstLength g.burst && isPageLength g.page && decide (1 ≤ g.first) && decide (g.first ≤ 31) && decide (1 ≤ g.hit) &&
    decide (g.hit ≤ 15) && decide (1 ≤ g.readyLimit) && decide (g.readyLimit ≤ 4095)

/-- The patrol fields lie in Table 6-1 (R85). -/
def validPatrol (g : PatrolGroup) : Bool := decide (g.addr % 4 = 0) && decide (g.addr ≤ 16777212)

/-- The states in which a clock-group or timing-group write is applied at once (Table 6-2). -/
def RegionState.appliesAtOnce : RegionState → Bool
  | .offline => true
  | .parked => true
  | .halted => true
  | .training => false
  | .settling => false
  | .online => false
  | .quiescing => false

/-- The region with a new clock group (R86): stored with fresh parity, off the poisoned entry, the trained flag clear and
the lane delays 0, as many as the new bus width has lanes. An ASYNC region is untrained with delays 0 already. -/
def Region.storeClock (g : Region) (c : ClockGroup) : Region :=
  { g with clock := c, clockOk := true, poison := { g.poison with clock := false } }.untrain

/-- The region with a new timing group, applied at once (R87). -/
def Region.storeTiming (g : Region) (t : TimingGroup) : Region :=
  { g with timing := t, timingOk := true, poison := { g.poison with timing := false } }

/-- The region with a written patrol group, stored with fresh parity and off the poisoned entry (R89, R134), which enters the
profile where no burst is in flight (R88). -/
def Region.storePatrol (g : Region) (x : PatrolGroup) : Region :=
  { g with written := some x, patrolOk := true, poison := { g.poison with patrol := false } }.admitPatrol

/-- PROFILE_WRITE of the clock group (R85, R86, Table 6-2). -/
def execProfileWriteClock (p : Port) (h : Hdr) (region : Nat) (c : ClockGroup) (s : State) :
    Host.Outcome State Fault Refusal :=
  .next <| s.accept (.profileWriteClock p h region c) p fun s =>
    s.acceptManage p h 5 fun s =>
      match regionIndex region with
      | none => s.respond p h 5 .badValue []
      | some r =>
        if validClock c = false then s.respond p h 5 .badValue []
        else if (s.region r).state.appliesAtOnce then
          (s.setRegion r ((s.region r).storeClock c)).respond p h 5 .ok []
        else s.respond p h 5 .wrongState []

/-- The timing group off the region's poisoned entry (R89, R142). -/
def Region.unnameTiming (g : Region) : Region := { g with poison := { g.poison with timing := false } }

/-- What a timing-group write does in ONLINE (R87): it is off the poisoned entry, and is applied at once where no burst is in
flight, and held pending through QUIESCING otherwise. DEDUCED (log entry 26): a group held pending leaves the parity of the
group in the profile as it is. -/
def State.retime (s : State) (r : RegionId) (t : TimingGroup) : State :=
  let g := (s.region r).unnameTiming
  if g.inFlight then s.setRegion r { g.quiesce .apply with pendingTiming := some t }
  else (s.setRegion r g).applyTiming r t

/-- PROFILE_WRITE of the timing group (R85, R87, Table 6-2). -/
def execProfileWriteTiming (p : Port) (h : Hdr) (region : Nat) (t : TimingGroup) (s : State) :
    Host.Outcome State Fault Refusal :=
  .next <| s.accept (.profileWriteTiming p h region t) p fun s =>
    s.acceptManage p h 5 fun s =>
      match regionIndex region with
      | none => s.respond p h 5 .badValue []
      | some r =>
        if validTiming t = false then s.respond p h 5 .badValue []
        else if (s.region r).state.appliesAtOnce then
          (s.setRegion r ((s.region r).storeTiming t)).respond p h 5 .ok []
        else if (s.region r).state = .online then (s.retime r t).respond p h 5 .ok []
        else s.respond p h 5 .busy []

/-- PROFILE_WRITE of the patrol group (R85, R88). -/
def execProfileWritePatrol (p : Port) (h : Hdr) (region : Nat) (x : PatrolGroup) (s : State) :
    Host.Outcome State Fault Refusal :=
  .next <| s.accept (.profileWritePatrol p h region x) p fun s =>
    s.acceptManage p h 5 fun s =>
      match regionIndex region with
      | none => s.respond p h 5 .badValue []
      | some r =>
        if validPatrol x = false then s.respond p h 5 .badValue []
        else (s.setRegion r ((s.region r).storePatrol x)).respond p h 5 .ok []

/-- All three groups: what a PROFILE_READ reads (R135). -/
def Groups.all : Groups := { clock := true, timing := true, patrol := true }

/-- PROFILE_READ (R89, R135): the patrol group answered, and examined, is the one last written. -/
def execProfileRead (p : Port) (h : Hdr) (region : Nat) (s : State) : Host.Outcome State Fault Refusal :=
  .next <| s.accept (.profileRead p h region) p fun s =>
    s.acceptManage p h 6 fun s =>
      match regionIndex region with
      | none => s.respond p h 6 .badValue []
      | some r =>
        if (s.region r).poison.any then s.respond p h 6 .poisoned []
        else if (s.profileFaults r .all).any then
          (s.faultAt .table (.profile r (s.profileFaults r .all))).respond p h 6 .poisoned []
        else s.respond p h 6 .ok (s.region r).profileWords

end Sys2Proof.Machine
end

