-- ==== Sys2Proof/Machine/Tables.lean ====
section
/-!
DEFINITION. The management of the Translation Unit's tables: SOURCE_WRITE and SOURCE_READ (R3 to R7), SEGMENT_WRITE and
SEGMENT_READ (R9 to R11).
-/

namespace Sys2Proof.Machine

/-! ## The Source Table -/

/-- The index operand as a source ID, where it is 0 to 63. -/
def sourceIndex (idx : Nat) : Option SourceId := if h : idx < 64 then some ⟨idx, h⟩ else none

/-- The self-lockout check (R5): the write names the requester's own entry and would clear valid, clear MANAGER or change
the bound port. -/
def State.locksOut (s : State) (h : Hdr) (i : SourceId) (f : SourceFields) : Bool :=
  i == h.src && (!f.valid || !f.manager || f.port != (s.source i).port)

/-- The busy check (R4): the target source holds a context, or has a cursor in flight. -/
def State.sourceBusy (s : State) (i : SourceId) : Bool :=
  decide (0 < s.count i) || (s.cursor i 0).inFlight || (s.cursor i 1).inFlight

/-- The checks of R3, in their order, on a write of entry `i`. -/
def State.sourceWriteRefusal (s : State) (h : Hdr) (i : SourceId) (f : SourceFields) : Option Status :=
  if f.limit < 1 ∨ 8 < f.limit then some .badValue
  else if s.locksOut h i f then some .selfLockout
  else if s.sourceBusy i then some .busy
  else none

/-- The effects of a SOURCE_WRITE that is taken (R6, steps 1 to 4). -/
def State.storeSource (s : State) (i : SourceId) (f : SourceFields) : State :=
  let s := ((s.setSource i { fields := f, parityOk := true }).setCursor i 0 .unset).setCursor i 1 .unset
  { s with poisonedSources := s.poisonedSources.filter (· != i) }

/-- SOURCE_WRITE (R3, R6). -/
def execSourceWrite (p : Port) (h : Hdr) (idx : Nat) (f : SourceFields) (s : State) : Host.Outcome State Fault Refusal :=
  .next <| s.accept (.sourceWrite p h idx f) p fun s =>
    s.acceptManage p h 1 fun s =>
      match sourceIndex idx with
      | none => s.respond p h 1 .badValue []
      | some i =>
        match s.sourceWriteRefusal h i f with
        | some st => s.respond p h 1 st []
        | none => (s.storeSource i f).respond p h 1 .ok []

/-- SOURCE_READ (R7, R19, R135). -/
def execSourceRead (p : Port) (h : Hdr) (idx : Nat) (s : State) : Host.Outcome State Fault Refusal :=
  .next <| s.accept (.sourceRead p h idx) p fun s =>
    s.acceptManage p h 2 fun s =>
      match sourceIndex idx with
      | none => s.respond p h 2 .badValue []
      | some i =>
        if s.poisonedSources.contains i then s.respond p h 2 .poisoned []
        else if s.sourceFaults i then (s.faultAt .table (.source i)).respond p h 2 .poisoned []
        else s.respond p h 2 .ok [sourceWord idx (s.source i) (s.count i)]

/-! ## The Segment Descriptor Table -/

/-- The segment operand as a segment number, where it is 0 to 511. -/
def segmentIndex (seg : Nat) : Option SegNo := if h : seg < 512 then some ⟨seg, h⟩ else none

/-- An order block of Table 1-2. -/
def isOrderBlock (n : Nat) : Bool := n == 1 || n == 4 || n == 8 || n == 16

/-- The fields of a descriptor that is not ABSENT lie in their ranges (R9, check 3). -/
def segmentInRange (d : SegOperands) : Bool :=
  decide (d.region ≤ 7) && decide (d.base ≤ 16777215) && isOrderBlock d.block

/-- The extent checks of R9 for each kind (checks 4 to 6). -/
def segmentExtentOk (d : SegOperands) : Bool :=
  match d.kind with
  | .absent => true
  | .direct => decide (1 ≤ d.limit) && decide (d.limit ≤ 1048576) && decide (d.base + d.limit ≤ Config.regionWords)
  | .journal => decide (8 ≤ d.limit) && decide (d.limit ≤ 1048576) && decide (d.base + d.limit ≤ Config.regionWords)
  | .indirect => decide (d.base + 2 ≤ Config.regionWords)

/-- The checks of R9 on the descriptor fields; for kind ABSENT none is made. -/
def segmentValid (d : SegOperands) : Bool := (d.kind == .absent) || (segmentInRange d && segmentExtentOk d)

/-- The descriptor a SEGMENT_WRITE stores (R10). -/
def storedDescriptor (d : SegOperands) : Descriptor :=
  match d.kind with
  | .absent => .reset
  | k =>
    { kind := k, region := Fin.ofNat 8 d.region, base := d.base, limit := if k = .indirect then 2 else d.limit,
      readBracket := d.readBracket, writeBracket := d.writeBracket, order := d.order, block := d.block }

/-- The effects of a SEGMENT_WRITE that is taken (R10). -/
def State.storeSegment (s : State) (i : SegNo) (d : SegOperands) : State :=
  let s := s.setSegment i { desc := storedDescriptor d, parityOk := true }
  { s with poisonedSegments := s.poisonedSegments.filter (· != i) }

/-- SEGMENT_WRITE (R9, R10). -/
def execSegmentWrite (p : Port) (h : Hdr) (seg : Nat) (d : SegOperands) (s : State) : Host.Outcome State Fault Refusal :=
  .next <| s.accept (.segmentWrite p h seg d) p fun s =>
    s.acceptManage p h 3 fun s =>
      match segmentIndex seg with
      | none => s.respond p h 3 .badValue []
      | some i => if segmentValid d then (s.storeSegment i d).respond p h 3 .ok [] else s.respond p h 3 .badValue []

/-- SEGMENT_READ (R11, R19, R135). -/
def execSegmentRead (p : Port) (h : Hdr) (seg : Nat) (s : State) : Host.Outcome State Fault Refusal :=
  .next <| s.accept (.segmentRead p h seg) p fun s =>
    s.acceptManage p h 4 fun s =>
      match segmentIndex seg with
      | none => s.respond p h 4 .badValue []
      | some i =>
        if s.poisonedSegments.contains i then s.respond p h 4 .poisoned []
        else if s.segmentFaults i then (s.faultAt .table (.segment i)).respond p h 4 .poisoned []
        else s.respond p h 4 .ok (descriptorWords seg (s.segment i))

end Sys2Proof.Machine
end

