-- ==== Sys2Proof/Machine/Training.lean ====
section
/-!
DEFINITION. Strobe training: STROBE_SAMPLE (R105, R106) and STEP_TIMER_EXPIRY (R107).
-/

namespace Sys2Proof.Machine

/-- A lane seek state moved by its sample at step k (Table 7-2). -/
def Seek.next (k : Nat) : Seek → Option Bool → Seek
  | .zero, some false => .one
  | .one, some true => .found k
  | x, _ => x

/-- The step number of a FOUND lane. -/
def Seek.step : Seek → Option Nat
  | .found m => some m
  | .zero => none
  | .one => none

/-- The seek states after the step's samples (R105). -/
def Training.seekAfter (t : Training) : List Seek := List.zipWith (Seek.next t.k) t.seek t.samples

/-- Every lane has its sample (R105). -/
def Training.complete (t : Training) : Bool := t.samples.all Option.isSome

/-- The region enters OFFLINE at the end of its training; it releases the strobe-feedback inputs (R106, R107). -/
def State.endTraining (s : State) (r : RegionId) (g : Region) (f : AlertFlag) : State :=
  (((s.setRegion r { g with training := none }).enterOffline r).raise f).releaseInputs

/-- A failed training (R107). -/
def State.failTraining (s : State) (r : RegionId) : State := s.endTraining r (s.region r).untrain (.trainFailed r)

/-- A training that succeeds (R106): each lane delay is its FOUND step, and the trained flag is set. -/
def State.passTraining (s : State) (r : RegionId) (steps : List Nat) : State :=
  s.endTraining r { s.region r with trained := true, delays := steps } (.trainDone r)

/-- The training record of the next step, READY (R105). -/
def Training.advance (t : Training) : Training := { t with k := t.k + 1, seek := t.seekAfter, awaiting := false }

/-- The outcome of a completed step (R105, steps 3 and 4). -/
def State.stepOutcome (s : State) (r : RegionId) (t : Training) : State :=
  match t.seekAfter.mapM Seek.step with
  | some steps => s.passTraining r steps
  | none =>
    if t.k = 63 then s.failTraining r
    else ((s.setRegion r { s.region r with training := some t.advance }).releaseInputs).becomeReady r

/-- A sample recorded on a lane of the holder (R105). -/
def Training.record (t : Training) (lane : Nat) (level : Bool) : Training :=
  { t with samples := t.samples.set lane (some level) }

/-- The sample that the holder's training records: its lane is one of the region's and has none yet in this step. -/
def Training.takes (t : Training) (lane : Nat) : Bool := t.awaiting && t.samples[lane]? == some none

/-- What a recorded sample does: the step completes with the last lane's. -/
def State.recordSample (s : State) (r : RegionId) (t : Training) : State :=
  if t.complete then s.stepOutcome r t else s.setRegion r { s.region r with training := some t }

/-- STROBE_SAMPLE (R105): a sample that the holder does not record is ignored. DEDUCED (log entry 36): a late sample of an
earlier probe that arrives while another probe is AWAITING is taken as that probe's. -/
def execStrobeSample (input : Fin 4) (level : Bool) (s : State) : Host.Outcome State Fault Refusal :=
  .next
    (match s.holder with
    | none => s
    | some r =>
      match (s.region r).training with
      | none => s
      | some t => if t.takes input.val then (s.recordSample r (t.record input.val level)).finish else s)

/-- STEP_TIMER_EXPIRY (R107): the training of the holder, whose probe awaits a sample, fails. With no probe AWAITING the
timer is stopped (log entry 1). -/
def execStepTimerExpiry (s : State) : Host.Outcome State Fault Refusal :=
  .next
    (match s.holder with
    | none => s
    | some r =>
      match (s.region r).training with
      | none => s
      | some t => if t.awaiting then (s.failTraining r).finish else s)

end Sys2Proof.Machine
end

