-- ==== Sys2Proof/Machine/Dispatch.lean ====
section
/-!
DEFINITION. One arm for each command, in the order of spec/opcode_table.json.
-/

namespace Sys2Proof.Machine

/-- The command's effect on everything but the queue of commands. -/
def exec (i : Instr) (s : State) : Host.Outcome State Fault Refusal :=
  match i with
  | .deviceReset => Sys2Proof.Machine.execDeviceReset s
  | .frameArrival p words ragged => Sys2Proof.Machine.execFrameArrival p words ragged s
  | .linkCredit p => Sys2Proof.Machine.execLinkCredit p s
  | .partnerCreditRestore p credits => Sys2Proof.Machine.execPartnerCreditRestore p credits s
  | .frameSent p => Sys2Proof.Machine.execFrameSent p s
  | .undecodableFrame p words => Sys2Proof.Machine.execUndecodableFrame p words s
  | .read p h seg ring off len => Sys2Proof.Machine.execRead p h seg ring off len s
  | .write p h seg ring off len payload => Sys2Proof.Machine.execWrite p h seg ring off len payload s
  | .compareSwap p h seg ring off expected new => Sys2Proof.Machine.execCompareSwap p h seg ring off expected new s
  | .append p h seg ring payload => Sys2Proof.Machine.execAppend p h seg ring payload s
  | .journalRestart p h seg ring first => Sys2Proof.Machine.execJournalRestart p h seg ring first s
  | .cursorSet p h cur seg ring pos count size => Sys2Proof.Machine.execCursorSet p h cur seg ring pos count size s
  | .cursorRead p h cur => Sys2Proof.Machine.execCursorRead p h cur s
  | .cursorWrite p h cur low high => Sys2Proof.Machine.execCursorWrite p h cur low high s
  | .cursorQuery p h cur => Sys2Proof.Machine.execCursorQuery p h cur s
  | .sourceWrite p h idx f => Sys2Proof.Machine.execSourceWrite p h idx f s
  | .sourceRead p h idx => Sys2Proof.Machine.execSourceRead p h idx s
  | .segmentWrite p h seg d => Sys2Proof.Machine.execSegmentWrite p h seg d s
  | .segmentRead p h seg => Sys2Proof.Machine.execSegmentRead p h seg s
  | .profileWriteClock p h region g => Sys2Proof.Machine.execProfileWriteClock p h region g s
  | .profileWriteTiming p h region g => Sys2Proof.Machine.execProfileWriteTiming p h region g s
  | .profileWritePatrol p h region g => Sys2Proof.Machine.execProfileWritePatrol p h region g s
  | .profileRead p h region => Sys2Proof.Machine.execProfileRead p h region s
  | .regionCommandOnline p h mask => Sys2Proof.Machine.execRegionCommandOnline p h mask s
  | .regionCommandOffline p h mask => Sys2Proof.Machine.execRegionCommandOffline p h mask s
  | .regionCommandPark p h mask => Sys2Proof.Machine.execRegionCommandPark p h mask s
  | .regionCommandUnpark p h mask => Sys2Proof.Machine.execRegionCommandUnpark p h mask s
  | .regionCommandTrain p h mask => Sys2Proof.Machine.execRegionCommandTrain p h mask s
  | .portControlEnable p h rx tx => Sys2Proof.Machine.execPortControlEnable p h rx tx s
  | .portControlDisable p h rx tx => Sys2Proof.Machine.execPortControlDisable p h rx tx s
  | .checkControlEnable p h => Sys2Proof.Machine.execCheckControlEnable p h s
  | .checkControlDisable p h => Sys2Proof.Machine.execCheckControlDisable p h s
  | .checkControlInject p h check => Sys2Proof.Machine.execCheckControlInject p h check s
  | .patrolSet p h interval => Sys2Proof.Machine.execPatrolSet p h interval s
  | .statusRead p h => Sys2Proof.Machine.execStatusRead p h s
  | .alertControlEnable p h kinds => Sys2Proof.Machine.execAlertControlEnable p h kinds s
  | .alertControlDisable p h kinds => Sys2Proof.Machine.execAlertControlDisable p h kinds s
  | .alertClear p h flags => Sys2Proof.Machine.execAlertClear p h flags s
  | .start p h => Sys2Proof.Machine.execStart p h s
  | .softReset p h => Sys2Proof.Machine.execSoftReset p h s
  | .clearContainment p h => Sys2Proof.Machine.execClearContainment p h s
  | .burstCompletion r dev => Sys2Proof.Machine.execBurstCompletion r dev s
  | .readyTimeout r moved => Sys2Proof.Machine.execReadyTimeout r moved s
  | .abandonedBurstEnd r release => Sys2Proof.Machine.execAbandonedBurstEnd r release s
  | .settleExpiry r => Sys2Proof.Machine.execSettleExpiry r s
  | .patrolIntervalExpiry => Sys2Proof.Machine.execPatrolIntervalExpiry s
  | .strobeSample input level => Sys2Proof.Machine.execStrobeSample input level s
  | .stepTimerExpiry => Sys2Proof.Machine.execStepTimerExpiry s

end Sys2Proof.Machine
end

