-- ==== Sys2Proof/Machine/Step.lean ====
section
/-!
DEFINITION. A step takes the command at the front of the queue; with no command waiting the part idles (log entry 2).
-/

namespace Sys2Proof.Machine

/-- One step: the front command is carried out on the state with the rest of the queue. -/
def step (s : State) : Host.Outcome State Fault Refusal :=
  match s.pending with
  | [] => .next s
  | c :: rest => exec c { s with pending := rest }

/-- The state with the command a word spells put at the front of its queue; no row of the table gives bits, so no word
spells one (log entry 21). -/
def State.withFetchWord (s : State) (nbits w : Nat) : State :=
  match decodeTableWord nbits w with
  | some c => { s with pending := c :: s.pending }
  | none => s

end Sys2Proof.Machine
end

