-- ==== Sys2Proof/Safety.lean ====
section
/-!
DEFINITION. The conditions under which a request is taken, and the invariants of the part: what holds in every state a run
reaches, stated as predicates of one state.
-/

namespace Sys2Proof

/-- A decoded request: its port, its source ID and tag, its request code, and whether its class is DATA (Table 12-2). -/
structure Request where
  port : Port
  hdr : Hdr
  code : Nat
  data : Bool
  deriving DecidableEq, Repr

/-- The request that a command is the acceptance of; none for a frame no row takes and for the other events. -/
def Instr.request : Instr → Option Request
  | .read p h _ _ _ _ => some ⟨p, h, 1, true⟩
  | .write p h _ _ _ _ _ => some ⟨p, h, 2, true⟩
  | .compareSwap p h _ _ _ _ _ => some ⟨p, h, 3, true⟩
  | .append p h _ _ _ => some ⟨p, h, 4, true⟩
  | .journalRestart p h _ _ _ => some ⟨p, h, 5, true⟩
  | .cursorSet p h _ _ _ _ _ _ => some ⟨p, h, 8, true⟩
  | .cursorRead p h _ => some ⟨p, h, 9, true⟩
  | .cursorWrite p h _ _ _ => some ⟨p, h, 10, true⟩
  | .cursorQuery p h _ => some ⟨p, h, 11, true⟩
  | .sourceWrite p h _ _ => some ⟨p, h, 1, false⟩
  | .sourceRead p h _ => some ⟨p, h, 2, false⟩
  | .segmentWrite p h _ _ => some ⟨p, h, 3, false⟩
  | .segmentRead p h _ => some ⟨p, h, 4, false⟩
  | .profileWriteClock p h _ _ => some ⟨p, h, 5, false⟩
  | .profileWriteTiming p h _ _ => some ⟨p, h, 5, false⟩
  | .profileWritePatrol p h _ _ => some ⟨p, h, 5, false⟩
  | .profileRead p h _ => some ⟨p, h, 6, false⟩
  | .regionCommandOnline p h _ => some ⟨p, h, 7, false⟩
  | .regionCommandOffline p h _ => some ⟨p, h, 7, false⟩
  | .regionCommandPark p h _ => some ⟨p, h, 7, false⟩
  | .regionCommandUnpark p h _ => some ⟨p, h, 7, false⟩
  | .regionCommandTrain p h _ => some ⟨p, h, 7, false⟩
  | .portControlEnable p h _ _ => some ⟨p, h, 8, false⟩
  | .portControlDisable p h _ _ => some ⟨p, h, 8, false⟩
  | .checkControlEnable p h => some ⟨p, h, 9, false⟩
  | .checkControlDisable p h => some ⟨p, h, 9, false⟩
  | .checkControlInject p h _ => some ⟨p, h, 9, false⟩
  | .patrolSet p h _ => some ⟨p, h, 10, false⟩
  | .statusRead p h => some ⟨p, h, 11, false⟩
  | .alertControlEnable p h _ => some ⟨p, h, 12, false⟩
  | .alertControlDisable p h _ => some ⟨p, h, 12, false⟩
  | .alertClear p h _ => some ⟨p, h, 13, false⟩
  | .start p h => some ⟨p, h, 14, false⟩
  | .softReset p h => some ⟨p, h, 15, false⟩
  | .clearContainment p h => some ⟨p, h, 16, false⟩
  | .undecodableFrame _ _ => none
  | .deviceReset => none
  | .frameArrival _ _ _ => none
  | .linkCredit _ => none
  | .partnerCreditRestore _ _ => none
  | .frameSent _ => none
  | .burstCompletion _ _ => none
  | .readyTimeout _ _ => none
  | .abandonedBurstEnd _ _ => none
  | .settleExpiry _ => none
  | .patrolIntervalExpiry => none
  | .strobeSample _ _ => none
  | .stepTimerExpiry => none

/-- The events that move words on the attached memory buses, or cut off the bursts there. -/
def Instr.touchesMemory : Instr → Bool
  | .deviceReset => true
  | .burstCompletion _ _ => true
  | .readyTimeout _ _ => true
  | .abandonedBurstEnd _ _ => true
  | _ => false

end Sys2Proof

namespace Sys2Proof.Machine

/-- A request that names a segment and takes a context: its kind, segment, requested ring, segment offset and length as
the bounds test of R16 takes them, and its payload. -/
structure SegmentRequest where
  kind : ReqKind
  seg : SegNo
  ring : Ring
  offset : Nat
  length : Nat
  payload : List Word
  deriving DecidableEq, Repr

/-- The segment request that a command is the acceptance of. -/
def segmentRequest : Instr → Option SegmentRequest
  | .read _ _ seg ring off len => some ⟨.read, seg, ring, off, len, []⟩
  | .write _ _ seg ring off len pl => some ⟨.write, seg, ring, off, len, pl⟩
  | .compareSwap _ _ seg ring off e n => some ⟨.compareSwap, seg, ring, off, 1, [e, n]⟩
  | .append _ _ seg ring pl => some ⟨.append, seg, ring, 0, 0, pl⟩
  | .journalRestart _ _ seg ring f => some ⟨.journalRestart, seg, ring, f, 0, []⟩
  | _ => none

/-- The context that a segment request is given (R24): a journal's for APPEND and JOURNAL_RESTART, an access's otherwise. -/
def SegmentRequest.context (x : SegmentRequest) (q : Request) (d : Descriptor) (eff : Ring) : Context :=
  if x.kind = .append ∨ x.kind = .journalRestart then journalContext q.port q.hdr x.kind d eff x.ring x.offset x.payload
  else accessContext q.port q.hdr x.kind d eff x.ring x.offset x.length x.payload

/-! ## When a request is taken -/

/-- The frame of command `c` is the one the Acceptance Unit takes next (R149), its source entry raises no TABLE fault, and
the source is valid and bound to port `p` (R2). -/
def State.fromSource (s : State) (c : Instr) (p : Port) (h : Hdr) : Prop :=
  s.nextAcceptance = some c ∧ s.sourceFaults h.src = false ∧ (s.source h.src).valid = true ∧ (s.source h.src).port = p

/-- A data frame that passes acceptance checks 1 to 4 (Table 2-2). -/
def State.passesData (s : State) (c : Instr) (p : Port) (h : Hdr) : Prop := s.fromSource c p h ∧ s.mode = .run

/-- A management frame that is admitted (R153). -/
def State.admits (s : State) (c : Instr) (p : Port) (h : Hdr) : Prop :=
  s.fromSource c p h ∧ (s.source h.src).manager = true

/-- The effective ring of a request (R12): the weaker of its source's ring and the ring it asks for. -/
def State.effectiveRing (s : State) (h : Hdr) (ring : Ring) : Ring := weaker (s.source h.src).ring ring

/-- A segment request that passes checks 1 to 6 (Table 2-2, R14, R19). -/
def State.translates (s : State) (c : Instr) (q : Request) (x : SegmentRequest) : Prop :=
  s.passesData c q.port q.hdr ∧ s.segmentFaults x.seg = false ∧
    translateRequest (s.segment x.seg) x.kind (s.effectiveRing q.hdr x.ring) x.offset x.length = none

/-- Checks 7 to 9 pass for source `src` on region `r`, and the lowest FREE context is `i` (R23, R24). -/
def State.hasRoom (s : State) (src : SourceId) (r : RegionId) (i : CtxId) : Prop :=
  (s.region r).state.admitsContexts = true ∧ s.count src < (s.source src).limit ∧ s.freeCtx = some i

/-- The burst `b` is in flight in region `r` for context `i` and holds the pins, with every word inside the region, and it is
the last of the context's current access. -/
def State.lastBurst (s : State) (r : RegionId) (b : Burst) (i : CtxId) : Prop :=
  (s.region r).burst = some b ∧ s.pins = some r ∧ b.abandoned = false ∧ b.inRange = true ∧ b.owner = .ctx i ∧ (s.ctx i).pieces = some []

/-! ## Invariants -/

/-- A region's burst, where it has one, has been abandoned (R66). -/
def Region.quiet (g : Region) : Prop := g.inFlight = false

/-- What containment is (R140, R142, R144): FAIL and the containment record report the mode, the poisoned set is empty
outside it, every region is HALTED exactly in it, and in it nothing is in flight, unfinished or training. -/
structure ContainmentInv (s : State) : Prop where
  fail : s.failPin = true ↔ s.mode = .contained
  recorded : s.record.isSome = true ↔ s.mode = .contained
  prior : ∀ c, s.record = some c → c.prior ≠ .contained
  poison : s.poisonedSize ≠ 0 → s.mode = .contained
  halted : ∀ r, (s.region r).state = .halted ↔ s.mode = .contained
  quiet : s.mode = .contained → ∀ r, (s.region r).quiet
  finished : s.mode = .contained → ∀ i, (s.ctx i).state = .free ∨ (s.ctx i).state = .done
  inputs : s.mode = .contained → s.holder = none ∧ s.waiting = []

/-- The queues of a port are within their depths (R148, R150). -/
def QueueBounds (s : State) : Prop :=
  ∀ p, (s.port p).ingress.length ≤ Config.ingressDepth ∧ (s.port p).egress.length ≤ Config.egressDepth

/-- A context waits in a service queue (Table 2-5). -/
def Context.queued (c : Context) : Prop := c.state = .waiting ∨ c.state = .serving

/-- The number of non-FREE contexts of a source (R27). -/
def State.outstanding (s : State) (j : SourceId) : Nat :=
  ((List.finRange 32).filter fun i => (s.ctx i).state != .free && (s.ctx i).source == j).length

/-- An unfinished context carries a step of cursor `k` of source `j`. -/
def Context.steps (c : Context) (j : SourceId) (k : Fin 2) : Prop :=
  c.queued ∧ c.kind.isCursor = true ∧ c.source = j ∧ c.cursor = k

/-- What the pool, the queues and the delivery lists are (R25, R27, R35, R57, R58, R71, R131): every unfinished context is in
the queue of its region and in no other place, every DONE context is on the delivery list of its port, each count is the
number of its source's contexts and within its limit, a turn pointer stands within its queue, a burst in flight belongs to a
SERVING context of an ONLINE or QUIESCING region or to its patrol read, the pins are held by a burst wherever one is on a
bus, a training record stands in a TRAINING region alone, and a cursor's marker is set exactly while one unfinished context
carries its step, and on a SET cursor alone. -/
structure PoolInv (s : State) : Prop where
  queueOf : ∀ r i, i ∈ (s.region r).queue → (s.ctx i).queued ∧ (s.ctx i).region = r
  inQueue : ∀ i, (s.ctx i).queued → i ∈ (s.region (s.ctx i).region).queue
  queueOnce : ∀ r, (s.region r).queue.Nodup
  pointer : ∀ r, (s.region r).turn ≤ (s.region r).queue.length
  listOf : ∀ p i, i ∈ (s.port p).delivery → (s.ctx i).state = .done ∧ (s.ctx i).port = p
  onList : ∀ i, (s.ctx i).state = .done → i ∈ (s.port (s.ctx i).port).delivery
  listOnce : ∀ p, (s.port p).delivery.Nodup
  counted : ∀ j, s.count j = s.outstanding j
  limited : ∀ j, s.count j ≤ (s.source j).limit ∧ 1 ≤ (s.source j).limit ∧ (s.source j).limit ≤ 8
  flight : ∀ r, (s.region r).inFlight = true → (s.region r).state = .online ∨ (s.region r).state = .quiescing
  owner : ∀ r b i, (s.region r).burst = some b → b.abandoned = false → b.owner = .ctx i →
    (s.ctx i).state = .serving ∧ (s.ctx i).region = r
  pinsHeld : ∀ r, s.pins = some r → (s.region r).burst.isSome = true
  pinsFree : s.pins = none → ∀ r, (s.region r).burst = none
  training : ∀ r, (s.region r).training.isSome = true → (s.region r).state = .training
  marked : ∀ j k, (s.cursor j k).inFlight = true ↔ ∃ i, (s.ctx i).steps j k
  markedOnce : ∀ i i' j k, (s.ctx i).steps j k → (s.ctx i').steps j k → i = i'
  markedSet : ∀ j k, (s.cursor j k).inFlight = true → (s.cursor j k).isSet = true

/-! ## Word ranges (R9, R17, R46, R61, R79, R113, R114, R120) -/

/-- A descriptor's words lie in its region (R9). -/
def Descriptor.inRegion (d : Descriptor) : Prop :=
  (d.kind = .direct ∨ d.kind = .journal → 1 ≤ d.limit ∧ d.base + d.limit ≤ Config.regionWords) ∧
    (d.kind = .indirect → d.base + 2 ≤ Config.regionWords)

/-- A patrol address has its four words in the region (Table 6-1). -/
def patrolInRegion (addr : Nat) : Prop := addr + 4 ≤ Config.regionWords

/-- A piece of a linear access lies in the word range [first, last). -/
def Piece.within (pc : Piece) (first last : Nat) : Prop :=
  pc.wrap = false ∧ first ≤ pc.addr ∧ pc.addr + pc.len ≤ last

/-- A wrapped read's block is its word range, and its start word lies in it (R73, R74). -/
def Context.blockOk (c : Context) (w : Wrap) : Prop :=
  0 < w.block ∧ c.first = w.base ∧ c.last = w.base + w.block ∧ w.base = c.addr - c.addr % w.block ∧ c.addr < c.last

/-- A piece of a context's current access lies in its word range; one native wrap burst is the whole block. -/
def Context.covers (c : Context) (pc : Piece) : Prop :=
  pc.within c.first c.last ∨
    ∃ w, c.stage = .main ∧ c.kind = .read ∧ c.wrap = some w ∧ pc = { addr := c.addr, len := w.block, wrap := true }

/-- Where an append or a restart stands in its segment (Table 8-2, R120): a block whose size has been read for a hop lies in
the segment. -/
def Context.journalOk (c : Context) : Prop :=
  c.addr = c.first ∧ c.first < c.last ∧
    (c.kind = .append → c.step = .freshWrite ∨ c.step = .anchorWrite →
      (Working.ofResult c.result).next + (Working.ofResult c.result).size ≤ c.last - c.first)

/-- The words that an unfinished context has touched and will touch lie in its word range, and that range in its region. -/
structure Context.InRange (c : Context) : Prop where
  range : c.first ≤ c.last ∧ c.last ≤ Config.regionWords
  link : c.stage = .link → c.kind = .read ∨ c.kind = .write ∨ c.kind = .compareSwap
  cut : ∀ l, c.pieces = some l → ∀ pc ∈ l, c.covers pc
  block : ∀ w, c.stage = .main → c.kind = .read → c.wrap = some w → c.blockOk w
  linear : ¬(c.stage = .main ∧ c.kind = .read ∧ c.wrap.isSome = true) →
    c.first ≤ c.access.addr ∧ c.access.addr + c.access.len ≤ c.last
  journal : c.stage = .main → c.kind = .append ∨ c.kind = .journalRestart → c.journalOk

/-- Every word that the part names or will name on the attached memory buses lies in its region (R17): those of segments,
patrol groups, patrol reads, unfinished contexts and the bursts on the buses; and a write burst is linear and carries a datum
for each of its words. -/
structure RangeInv (s : State) : Prop where
  segments : ∀ i, (s.segment i).inRegion
  patrol : ∀ r, patrolInRegion (s.region r).patrol.addr
  written : ∀ r w, (s.region r).written = some w → patrolInRegion w.addr
  patrolRead : ∀ r pr, (s.region r).patrolRead = some pr →
    patrolInRegion pr.addr ∧ ∀ pc ∈ pr.rest, pc.within pr.addr (pr.addr + 4)
  contexts : ∀ i, (s.ctx i).queued → (s.ctx i).InRange
  bursts : ∀ r b, (s.region r).burst = some b → b.inRange = true
  writes : ∀ r b, (s.region r).burst = some b → b.write = true → b.wrap = false ∧ b.data.length = b.len

end Sys2Proof.Machine
end

