-- ==== Sys2Proof/Certificates/Slice0/Obligations.lean ====
section
/-!
DEFINITION. The statements about the part. A statement about a request says what its acceptance makes of the state up to the
end of the event, which is `State.finish`: the delivery lists are served and the alert rounds made.
-/

open Sys2Proof Sys2Proof.Machine

/-! ## The queue of commands and the reset -/

/-- A step with a command at the front of the queue is that command's effect on the state with the rest of the queue. -/
def Obligations.StepRunsFrontCommand : Prop :=
  ∀ (c : Instr) (rest : List Instr) (s : State), s.pending = c :: rest → step s = exec c { s with pending := rest }

/-- DEVICE_RESET from any state: every item of the spec's reset tables takes its value, a credit restore of 8 is sent on
port A alone, no burst is on a bus and none holds the pins (R66, R71), and attached memory keeps every byte that no write
burst on a bus was writing. Each word of such a burst holds its old or its new value, lane by lane where it is enabled
(R121, R123), and a burst in flight of a request other than APPEND and JOURNAL_RESTART is carried out, every word new (R38;
log entry 35, the model's choice: R38's words are taken for these, R121's and R123's for the journal's). The model's
choices: the words of an abandoned burst are old or new too (log entry 31), and the record of what was sent to the partners
and the queue of commands are kept (log entries 13 and 23). -/
def Obligations.DeviceResetValues : Prop :=
  ∀ s : State, ∃ t : State, exec .deviceReset s = .next t ∧
    t.sources[0] = { fields := { valid := true, port := .A, ring := 0, manager := true, alertTarget := true, limit := 8 },
                     parityOk := true } ∧
    (∀ i : SourceId, i ≠ 0 →
      t.sources[i] = { fields := { valid := false, port := .A, ring := 3, manager := false, alertTarget := false, limit := 1 },
                       parityOk := true }) ∧
    (∀ i : SegNo, t.segments[i] =
      { desc := { kind := .absent, region := 0, base := 0, limit := 1, readBracket := 0, writeBracket := 0, order := .rotate,
                  block := 1 }, parityOk := true }) ∧
    (∀ i, t.ctx i =
      { state := .free, stage := .link, kind := .read, source := 0, tag := 0, port := .A, ring := 0, region := 0, addr := 0,
        first := 0, last := 0, length := 0, progress := 0, step := .anchorRead, cursor := 0, payload := [], status := .ok,
        result := List.replicate 64 0, wrap := none, opOffset := 0, opLength := 0, opRing := 0, curPos := 0,
        curRounded := 0, curSize := 0, pieces := none, scratch := [], parityOk := true }) ∧
    (∀ j, t.count j = 0) ∧
    (∀ j k, t.cursor j k =
      { isSet := false, segment := 0, pos := 0, count := 0, size := 1, ring := 3, inFlight := false }) ∧
    (∀ r, t.region r =
      { clock := { sync := false, wide := true, divider := 1, parityLane := false },
        timing :=
          { burst := 1, nativeWrap := false, page := 16, first := 31, hit := 15, monitor := false, readyLimit := 4095 },
        patrol := { enable := false, addr := 0, pattern := #v[0, 0, 0, 0] },
        written := none, clockOk := true, timingOk := true, patrolOk := true,
        poison := { clock := false, timing := false, patrol := false },
        state := .offline, action := none, pendingTiming := none, settle := none, prior := none, priorAction := none,
        queue := [], turn := 0, openPage := none, trained := false, delays := [0, 0, 0, 0], due := false,
        patrolRead := none, burst := none, training := none }) ∧
    t.pins = none ∧ t.pending = s.pending ∧ t.holder = none ∧ t.waiting = [] ∧
    t.ports.a = { rxOn := true, txOn := true, ingress := [], egress := [], delivery := [], sending := none, txCredits := 0,
                  signals := s.ports.a.signals ++ [.restore 8] } ∧
    (∀ p, p ≠ .A → t.port p =
      { rxOn := false, txOn := false, ingress := [], egress := [], delivery := [], sending := none, txCredits := 0,
        signals := (s.port p).signals }) ∧
    t.accPtr = .A ∧ t.checks = false ∧ t.inject = { table := false, context := false, memory := false, egress := false } ∧
    t.record = none ∧ t.poisonedSources = [] ∧ t.poisonedSegments = [] ∧ t.failPin = false ∧ t.mode = .config ∧
    t.alerts = 0 ∧ t.alertMask = 0 ∧ t.patrolInterval = 0 ∧
    (∀ x, (∀ r b, (s.region r).burst = some b → b.write = true → ∀ a ∈ b.addrs, ∀ k < 4, x ≠ byteAddr r a k) →
      t.mem.byte x = s.mem.byte x) ∧
    (∀ r b, s.mem.wf = true → (s.region r).burst = some b → b.write = true → b.wrap = false → b.inRange = true →
      b.data.length = b.len → ∀ k (w : Word) (e : BitVec 4), b.data[k]? = some (w, e) →
      let old := ∀ l, l < 4 → t.mem.byte (byteAddr r (b.addr + k) l) = s.mem.byte (byteAddr r (b.addr + k) l)
      let new := ∀ l, l < 4 → t.mem.byte (byteAddr r (b.addr + k) l) =
        if e.getLsbD l then lane w l else s.mem.byte (byteAddr r (b.addr + k) l)
      (old ∨ new) ∧
      (∀ i, b.abandoned = false → b.owner = .ctx i → (s.ctx i).kind ≠ .append → (s.ctx i).kind ≠ .journalRestart → new))

/-! ## Links (R147 to R150) -/

/-- What makes a frame good (R147, step 2), and what FRAME_ARRIVAL does in each of its four cases. -/
def Obligations.FrameArrivalOutcome : Prop :=
  (∀ (ws : List Word) (ragged : Bool), goodFrame ws ragged = true ↔
    ragged = false ∧ 3 ≤ ws.length ∧ ws.length ≤ 70 ∧ (ws.headD 0).toNat % 128 = ws.length ∧
      (ws.getLastD 0).setWidth 16 = crc ws.dropLast) ∧
  ∀ (p : Port) (ws : List Word) (ragged : Bool) (s : State),
    ((s.port p).rxOn = false → exec (.frameArrival p ws ragged) s = .next s.finish) ∧
    ((s.port p).rxOn = true → goodFrame ws ragged = false → (s.port p).ingress.length < 8 →
      exec (.frameArrival p ws ragged) s = .next ((s.signal p .credit).raise (.frameError p)).finish) ∧
    ((s.port p).rxOn = true → goodFrame ws ragged = false → 8 ≤ (s.port p).ingress.length →
      exec (.frameArrival p ws ragged) s = .next (s.raise (.frameError p)).finish) ∧
    ((s.port p).rxOn = true → goodFrame ws ragged = true → 8 ≤ (s.port p).ingress.length →
      exec (.frameArrival p ws ragged) s = .next (s.raise (.overrun p)).finish) ∧
    ((s.port p).rxOn = true → goodFrame ws ragged = true → (s.port p).ingress.length < 8 →
      exec (.frameArrival p ws ragged) s =
        .next (s.setPort p { s.port p with ingress := (s.port p).ingress ++ [ws] }).finish)

/-- LINK_CREDIT raises the transmit credit count by one, PARTNER_CREDIT_RESTORE sets it and FRAME_SENT makes the transmitter
idle; after each the head egress frame begins to be sent exactly where the transmitter is enabled and idle and a credit is
held, and it leaves the queue then and lowers the count by one. The model's choices: its check word is put behind it as its
sending begins (log entry 29), and the count is not bounded (log entry 27). -/
def Obligations.CreditsAndSending : Prop :=
  (∀ (p : Port) (s : State), exec (.linkCredit p) s =
    .next ((s.setPort p { s.port p with txCredits := (s.port p).txCredits + 1 }).trySend p).finish) ∧
  (∀ (p : Port) (n : Nat) (s : State), exec (.partnerCreditRestore p n) s =
    .next ((s.setPort p { s.port p with txCredits := n }).trySend p).finish) ∧
  (∀ (p : Port) (f : List Word) (s : State), (s.port p).sending = some f → exec (.frameSent p) s =
    .next ((s.setPort p { s.port p with sending := none }).trySend p).finish) ∧
  (∀ (x : PortState) (f : List Word) (rest : List (List Word)), x.egress = f :: rest → x.txOn = true → x.sending = none →
    0 < x.txCredits →
    x.trySend = { x with egress := rest, sending := some (f ++ [(crc f).setWidth 32]), txCredits := x.txCredits - 1 }) ∧
  (∀ x : PortState, x.egress = [] ∨ x.txOn = false ∨ x.sending ≠ none ∨ x.txCredits = 0 → x.trySend = x)

/-- The Acceptance Unit takes from port `p` exactly where `p` qualifies and no port from the pointer up to it does (R149);
the frame it takes is the head of that port's ingress queue. A frame taken leaves its queue, a credit is returned where the
receiver is enabled, and the pointer moves to the port after; nothing else of the state changes (R148, R149). -/
def Obligations.AcceptanceArbiter : Prop :=
  (∀ x : PortState, x.qualifies = true ↔ x.ingress ≠ [] ∧ (x.egress.length < 16 ∨ x.txOn = false)) ∧
  (∀ s : State,
    let p0 := s.accPtr
    let p1 := portAfter p0
    let p2 := portAfter p1
    let p3 := portAfter p2
    s.acceptPort =
      if (s.port p0).qualifies then some p0 else if (s.port p1).qualifies then some p1
      else if (s.port p2).qualifies then some p2 else if (s.port p3).qualifies then some p3 else none) ∧
  (∀ (s : State) (c : Instr), s.nextAcceptance = some c ↔
    ∃ p ws rest, s.acceptPort = some p ∧ (s.port p).ingress = ws :: rest ∧ c = frameInstr p ws) ∧
  (∀ (s : State) (p : Port), s.takeFrame p =
    { s with
      accPtr := portAfter p,
      ports := s.ports.put p
        { s.port p with
          ingress := (s.port p).ingress.tail,
          signals := (s.port p).signals ++ (if (s.port p).rxOn then [.credit] else []) } })

/-- An immediate response joins the arrival port's egress queue: one header word of class RESPONSE that echoes the source ID
and the tag, the status code of Table 12-5 and the result words. It is discarded where the transmitter is disabled, and withheld by an
EGRESS fault (R149, R150, R162). -/
def Obligations.ResponseJoinsEgress : Prop :=
  (∀ (code : Nat) (h : Hdr) (st : Status) (ws : List Word),
    responseFrame code h st ws =
      word (ws.length + 3 + 2 * 128 + code * 512 + h.src.val * 16384 + h.tag.toNat * 1048576) :: word st.code :: ws) ∧
  ([Status.ok, .exhausted, .compareFailed, .notStarted, .contained, .noSource, .sourceMismatch, .notManager, .badRequest,
    .busy, .noContext, .noSegment, .kindMismatch, .bounds, .ringDenied, .pointerFault, .indirectLoop, .regionOffline,
    .deviceTimeout, .journalFull, .journalBroken, .recordTooLarge, .cursorBusy, .cursorUnset, .wrongState, .badValue,
    .poisoned, .selfLockout, .notTrained].map Status.code = List.range 29) ∧
  ∀ (s : State) (p : Port) (h : Hdr) (code : Nat) (st : Status) (ws : List Word),
    ((s.port p).txOn = false → s.respond p h code st ws = s) ∧
    ((s.port p).txOn = true → (s.port p).egress.length < 16 → s.egressFaults = false →
      s.respond p h code st ws =
        (s.setPort p { s.port p with egress := (s.port p).egress ++ [responseFrame code h st ws] }).trySend p) ∧
    ((s.port p).txOn = true → (s.port p).egress.length < 16 → s.egressFaults = true →
      s.respond p h code st ws = s.faultAt .egress (.egress p none))

/-- A frame that check 1 fails is answered BAD_REQUEST before its source is looked at (R21). Which frames those are (R21,
R110, R125, R153, R160, R161, Tables 12-2, 12-3, 12-4 and 12-8): all but the DATA and the MANAGEMENT frames of a known
request code with as many words as its layout gives, with a READ or WRITE length of 1 to 64, a cursor index of 0 or 1 and an
item size of 1, 2, 4 or 8. Log entry 6, the model's choice: a management frame of its layout's word count (of any word
count, for PROFILE_WRITE of group 3) whose action or group no row names is the same row, and is admitted first and then
answered BAD_VALUE. -/
def Obligations.UndecodableFrameAnswered : Prop :=
  (∀ (p : Port) (ws : List Word), 3 ≤ ws.length →
    let hd := (ws.headD 0).toNat
    let cls := hd / 128 % 4
    let code := hd / 512 % 32
    let n := ws.length - 2
    let w1 := (ws.getD 1 0).toNat
    let len := w1 / 65536 % 128
    let index := w1 / 4096 % 4
    let size := w1 / 16777216 % 16
    let known := code = 7 ∧ w1 % 8 ≤ 4 ∨ (code = 8 ∨ code = 12) ∧ w1 % 4 ≤ 1 ∨ code = 9 ∧ w1 % 4 ≤ 2
    let data :=
      code = 1 ∧ n = 2 ∧ 1 ≤ len ∧ len ≤ 64 ∨ code = 2 ∧ n = 2 + len ∧ 1 ≤ len ∧ len ≤ 64 ∨ code = 3 ∧ n = 4 ∨
      code = 4 ∧ 2 ≤ n ∧ n ≤ 61 ∨ code = 5 ∧ n = 2 ∨
      code = 8 ∧ n = 3 ∧ index ≤ 1 ∧ (size = 1 ∨ size = 2 ∨ size = 4 ∨ size = 8) ∨
      (code = 9 ∨ code = 11) ∧ n = 1 ∧ index ≤ 1 ∨ code = 10 ∧ n = 3 ∧ index ≤ 1
    let manage :=
      (code = 1 ∨ code = 2 ∨ code = 4 ∨ code = 6 ∨ code = 10 ∨ code = 11 ∨ code = 14 ∨ code = 15 ∨ code = 16) ∧ n = 1 ∨
      code = 3 ∧ n = 3 ∨ code = 13 ∧ n = 2 ∨ known ∧ n = 1 ∨
      code = 5 ∧ (w1 / 16 % 4 = 0 ∧ n = 2 ∨ w1 / 16 % 4 = 1 ∧ n = 3 ∨ w1 / 16 % 4 = 2 ∧ n = 7)
    (frameInstr p ws = .undecodableFrame p ws ↔ ¬(cls = 0 ∧ data) ∧ ¬(cls = 1 ∧ manage)) ∧
    (unlistedAction code (frameBody ws) = true ↔
      code = 5 ∧ w1 / 16 % 4 = 3 ∨ (code = 7 ∨ code = 8 ∨ code = 9 ∨ code = 12) ∧ ¬known ∧ n = 1)) ∧
  ∀ (p : Port) (ws : List Word) (s : State), s.nextAcceptance = some (.undecodableFrame p ws) →
    (¬(frameClass (ws.headD 0) = 1 ∧ unlistedAction (frameCode (ws.headD 0)) (frameBody ws) = true) →
      exec (.undecodableFrame p ws) s =
        .next ((s.takeFrame p).respond p (frameHdr (ws.headD 0)) (frameCode (ws.headD 0)) .badRequest []).finish) ∧
    (frameClass (ws.headD 0) = 1 ∧ unlistedAction (frameCode (ws.headD 0)) (frameBody ws) = true →
      s.admits (.undecodableFrame p ws) p (frameHdr (ws.headD 0)) →
      exec (.undecodableFrame p ws) s =
        .next ((s.takeFrame p).respond p (frameHdr (ws.headD 0)) (frameCode (ws.headD 0)) .badValue []).finish)

/-! ## The acceptance checks (R2, R14 to R24, R153) -/

/-- Checks 2 to 4 on every decoded frame, data or management (R2, R19, R22, R153): a TABLE fault of the source entry is
answered CONTAINED, an invalid source NO_SOURCE, a source on another port SOURCE_MISMATCH; outside RUN a data frame is
refused by the mode, and a source that is no manager is refused every management request. Log entry 6, the model's choice: a
management frame whose action or group no row names is admitted by the same checks. -/
def Obligations.AdmissionChecksRefuse : Prop :=
  ∀ (c : Instr) (q : Request) (s : State),
    c.request = some q ∨
      (∃ ws, c = .undecodableFrame q.port ws ∧ frameClass (ws.headD 0) = 1 ∧
        unlistedAction (frameCode (ws.headD 0)) (frameBody ws) = true ∧
        q = { port := q.port, hdr := frameHdr (ws.headD 0), code := frameCode (ws.headD 0), data := false }) →
    s.nextAcceptance = some c →
    (s.sourceFaults q.hdr.src = true →
      exec c s = .next
        (((s.takeFrame q.port).faultAt .table (.source q.hdr.src)).respond q.port q.hdr q.code .contained []).finish) ∧
    (s.sourceFaults q.hdr.src = false → (s.source q.hdr.src).valid = false →
      exec c s = .next ((s.takeFrame q.port).respond q.port q.hdr q.code .noSource []).finish) ∧
    (s.sourceFaults q.hdr.src = false → (s.source q.hdr.src).valid = true → (s.source q.hdr.src).port ≠ q.port →
      exec c s = .next ((s.takeFrame q.port).respond q.port q.hdr q.code .sourceMismatch []).finish) ∧
    (s.fromSource c q.port q.hdr → q.data = true → s.mode = .config →
      exec c s = .next ((s.takeFrame q.port).respond q.port q.hdr q.code .notStarted []).finish) ∧
    (s.fromSource c q.port q.hdr → q.data = true → s.mode = .contained →
      exec c s = .next ((s.takeFrame q.port).respond q.port q.hdr q.code .contained []).finish) ∧
    (s.fromSource c q.port q.hdr → q.data = false → (s.source q.hdr.src).manager = false →
      exec c s = .next ((s.takeFrame q.port).respond q.port q.hdr q.code .notManager []).finish)

/-- The tests of translation, in their order, on every request kind and segment kind (R13 to R16, R43): the first that
fails gives the status. Offsets and lengths are summed in full width. -/
def Obligations.TranslationTestsInOrder : Prop :=
  ∀ (d : Descriptor) (k : ReqKind) (ring : Ring) (f n : Nat),
    (d.kind = .absent → translateRequest d k ring f n = some .noSegment) ∧
    (d.kind = .direct → k = .append ∨ k = .journalRestart → translateRequest d k ring f n = some .kindMismatch) ∧
    (d.kind = .indirect → k ≠ .read → k ≠ .write → k ≠ .compareSwap → translateRequest d k ring f n = some .kindMismatch) ∧
    (d.kind = .journal → k ≠ .read → k ≠ .append → k ≠ .journalRestart → translateRequest d k ring f n = some .kindMismatch) ∧
    (d.kind = .indirect → k = .read ∨ k = .write ∨ k = .compareSwap →
      translateRequest d k ring f n = if ring.val ≤ d.readBracket.val then none else some .ringDenied) ∧
    (d.kind = .direct ∨ d.kind = .journal → ¬(n = d.block ∧ 1 < d.block) →
      translateRequest d .read ring f n =
        if d.limit < f + n then some .bounds else if ring.val ≤ d.readBracket.val then none else some .ringDenied) ∧
    (d.kind = .direct ∨ d.kind = .journal → n = d.block → 1 < d.block →
      translateRequest d .read ring f n =
        if d.limit < f + n ∨ d.base + f - (d.base + f) % d.block < d.base ∨
            d.base + d.limit < d.base + f - (d.base + f) % d.block + d.block then some .bounds
        else if ring.val ≤ d.readBracket.val then none else some .ringDenied) ∧
    (d.kind = .direct →
      translateRequest d .write ring f n =
        if d.limit < f + n then some .bounds else if ring.val ≤ d.writeBracket.val then none else some .ringDenied) ∧
    (d.kind = .direct →
      translateRequest d .compareSwap ring f n =
        if d.limit < f + 1 then some .bounds
        else if ring.val ≤ d.readBracket.val ∧ ring.val ≤ d.writeBracket.val then none else some .ringDenied) ∧
    (d.kind = .journal →
      translateRequest d .append ring f n = if ring.val ≤ d.writeBracket.val then none else some .ringDenied) ∧
    (d.kind = .journal →
      translateRequest d .journalRestart ring f n =
        if f < 1 ∨ d.limit < f + 3 then some .bounds
        else if ring.val ≤ d.writeBracket.val then none else some .ringDenied) ∧
    (d.kind = .direct →
      translateRequest d .cursorRead ring f n =
        if d.limit * 4 < f + n then some .bounds
        else if ring.val ≤ d.readBracket.val then none else some .ringDenied) ∧
    (d.kind = .direct →
      translateRequest d .cursorWrite ring f n =
        if d.limit * 4 < f + n then some .bounds
        else if ring.val ≤ d.writeBracket.val then none else some .ringDenied)

/-- Check 6 of READ, WRITE, COMPARE_SWAP, APPEND and JOURNAL_RESTART (R14, R19): a TABLE fault of the descriptor is answered
CONTAINED, and a failed test of translation by its status; no context is taken. -/
def Obligations.TranslationRefusesAtAcceptance : Prop :=
  ∀ (c : Instr) (q : Request) (x : SegmentRequest) (s : State), c.request = some q → segmentRequest c = some x →
    s.passesData c q.port q.hdr →
    (s.segmentFaults x.seg = true →
      exec c s = .next
        (((s.takeFrame q.port).faultAt .table (.segment x.seg)).respond q.port q.hdr q.code .contained []).finish) ∧
    (∀ st, s.segmentFaults x.seg = false →
      translateRequest (s.segment x.seg) x.kind (s.effectiveRing q.hdr x.ring) x.offset x.length = some st →
      exec c s = .next ((s.takeFrame q.port).respond q.port q.hdr q.code st []).finish)

/-- Checks 7 to 9 of the same requests, in their order (R23, R24). -/
def Obligations.RoomChecksRefuse : Prop :=
  ∀ (c : Instr) (q : Request) (x : SegmentRequest) (s : State), c.request = some q → segmentRequest c = some x →
    s.translates c q x →
    ((s.region (s.segment x.seg).region).state = .offline ∨ (s.region (s.segment x.seg).region).state = .training →
      exec c s = .next ((s.takeFrame q.port).respond q.port q.hdr q.code .regionOffline []).finish) ∧
    ((s.region (s.segment x.seg).region).state ≠ .offline → (s.region (s.segment x.seg).region).state ≠ .training →
      (s.source q.hdr.src).limit ≤ s.count q.hdr.src →
      exec c s = .next ((s.takeFrame q.port).respond q.port q.hdr q.code .busy []).finish) ∧
    ((s.region (s.segment x.seg).region).state ≠ .offline → (s.region (s.segment x.seg).region).state ≠ .training →
      s.count q.hdr.src < (s.source q.hdr.src).limit → (∀ i, (s.ctx i).state ≠ .free) →
      exec c s = .next ((s.takeFrame q.port).respond q.port q.hdr q.code .noContext []).finish)

/-- READ, WRITE, COMPARE_SWAP, APPEND and JOURNAL_RESTART that pass the nine checks are given the FREE context of the lowest
index, and the region may take a turn; no response is sent (R24, R57). A context allocated is stored, its source's count
rises by one and it enters the tail of its region's queue; for a cursor step the cursor is marked in flight. Nothing else
changes by the allocation (R24). -/
def Obligations.SegmentRequestGetsContext : Prop :=
  (∀ (c : Instr) (q : Request) (x : SegmentRequest) (i : CtxId) (s : State), c.request = some q →
    segmentRequest c = some x → s.translates c q x → s.hasRoom q.hdr.src (s.segment x.seg).region i →
    (s.ctx i).state = .free ∧ (∀ j : CtxId, j.val < i.val → (s.ctx j).state ≠ .free) ∧
    exec c s = .next
      (((s.takeFrame q.port).allocate i
        (x.context q (s.segment x.seg) (s.effectiveRing q.hdr x.ring))).takeTurn (s.segment x.seg).region).finish) ∧
  ∀ (s : State) (i : CtxId) (c : Context),
    (c.kind.isCursor = false → s.allocate i c =
      { s with
        ctxs := s.ctxs.set i.val c i.isLt,
        counts := s.counts.set c.source.val (s.count c.source + 1) c.source.isLt,
        regions := s.regions.set c.region.val
          { s.region c.region with queue := (s.region c.region).queue ++ [i] } c.region.isLt }) ∧
    (c.kind.isCursor = true → s.allocate i c =
      { s with
        ctxs := s.ctxs.set i.val c i.isLt,
        counts := s.counts.set c.source.val (s.count c.source + 1) c.source.isLt,
        regions := s.regions.set c.region.val
          { s.region c.region with queue := (s.region c.region).queue ++ [i] } c.region.isLt,
        cursors := s.cursors.set (cursorIndex c.source c.cursor).val
          { s.cursor c.source c.cursor with inFlight := true } (cursorIndex c.source c.cursor).isLt })

/-- The fields of a new context: of READ, WRITE and COMPARE_SWAP, resolved on the segment (R17, R26, R73, R74) or in stage
LINK on an INDIRECT one (Table 3-2); of APPEND and JOURNAL_RESTART, a writer of the whole journal segment (R110,
Table 4-1). -/
def Obligations.NewContextFields : Prop :=
  (∀ (p : Port) (h : Hdr) (k : ReqKind) (d : Descriptor) (eff ring : Ring) (f n : Nat) (pl : List Word),
    let c := accessContext p h k d eff ring f n pl
    (c.state = .waiting ∧ c.kind = k ∧ c.source = h.src ∧ c.tag = h.tag ∧ c.port = p ∧ c.ring = eff ∧
      c.region = d.region ∧ c.progress = 0 ∧ c.payload = pl ∧ c.status = .ok ∧ c.result = List.replicate 64 0 ∧
      c.pieces = none) ∧
    (d.kind = .indirect → c.stage = .link ∧ c.addr = d.base ∧ c.first = d.base ∧ c.last = d.base + 2 ∧ c.length = 2 ∧
      c.opOffset = f ∧ c.opLength = n ∧ c.opRing = ring ∧ c.wrap = none) ∧
    (d.kind ≠ .indirect → c.stage = .main ∧ c.addr = d.base + f ∧
      (k = .read → ¬(n = d.block ∧ 1 < d.block) →
        c.first = d.base + f ∧ c.last = d.base + f + n ∧ c.length = n ∧ c.wrap = none) ∧
      (k = .read → n = d.block → 1 < d.block →
        c.first = d.base + f - (d.base + f) % n ∧ c.last = d.base + f - (d.base + f) % n + n ∧ c.length = n ∧
        c.wrap = some { order := d.order, block := n, base := d.base + f - (d.base + f) % n, start := (d.base + f) % n }) ∧
      (k = .write → c.first = d.base + f ∧ c.last = d.base + f + n ∧ c.length = n ∧ c.wrap = none) ∧
      (k = .compareSwap → c.first = d.base + f ∧ c.last = d.base + f + 1 ∧ c.length = 2 ∧ c.wrap = none))) ∧
  ∀ (p : Port) (h : Hdr) (k : ReqKind) (d : Descriptor) (eff ring : Ring) (f : Nat) (pl : List Word),
    let c := journalContext p h k d eff ring f pl
    c.state = .waiting ∧ c.stage = .main ∧ c.kind = k ∧ c.source = h.src ∧ c.tag = h.tag ∧ c.port = p ∧ c.ring = eff ∧
    c.region = d.region ∧ c.addr = d.base ∧ c.first = d.base ∧ c.last = d.base + d.limit ∧ c.payload = pl ∧
    c.status = .ok ∧ c.result = List.replicate 64 0 ∧ c.wrap = none ∧
    (k = .append → c.step = .anchorRead ∧ c.writer = true) ∧
    (k = .journalRestart → c.step = .freshWrite ∧ c.writer = true ∧ c.opOffset = f)

/-! ## Cursors (Chapter 9) -/

/-- CURSOR_SET (R126, R19): refused CURSOR_BUSY by a cursor in flight, CONTAINED by a TABLE fault of the descriptor and by
the segment's tests, and otherwise it sets the whole record in its acceptance event. -/
def Obligations.CursorSetTakenOrRefused : Prop :=
  ∀ (p : Port) (h : Hdr) (cur : Fin 2) (seg : SegNo) (ring : Ring) (pos count size : Nat) (s : State),
    let c := Instr.cursorSet p h cur seg ring pos count size
    let busy := (s.cursor h.src cur).isSet = true ∧ (s.cursor h.src cur).inFlight = true
    let d := s.segment seg
    s.passesData c p h →
    (busy → exec c s = .next ((s.takeFrame p).respond p h 8 .cursorBusy []).finish) ∧
    (¬busy → s.segmentFaults seg = true →
      exec c s = .next (((s.takeFrame p).faultAt .table (.segment seg)).respond p h 8 .contained []).finish) ∧
    (¬busy → s.segmentFaults seg = false → d.kind = .absent →
      exec c s = .next ((s.takeFrame p).respond p h 8 .noSegment []).finish) ∧
    (¬busy → s.segmentFaults seg = false → d.kind = .indirect ∨ d.kind = .journal →
      exec c s = .next ((s.takeFrame p).respond p h 8 .kindMismatch []).finish) ∧
    (¬busy → s.segmentFaults seg = false → d.kind = .direct → d.limit * 4 ≤ pos →
      exec c s = .next ((s.takeFrame p).respond p h 8 .bounds []).finish) ∧
    (¬busy → s.segmentFaults seg = false → d.kind = .direct → pos < d.limit * 4 →
      exec c s = .next
        (((s.takeFrame p).setCursor h.src cur
          { isSet := true, segment := seg, pos := pos, count := count, size := size,
            ring := if (s.source h.src).ring.val ≤ ring.val then ring else (s.source h.src).ring,
            inFlight := false }).respond p h 8 .ok []).finish)

/-- CURSOR_READ and CURSOR_WRITE. At check 5 (Table 9-2) an UNSET cursor, a cursor in flight and a count of 0 are refused;
at check 6 a TABLE fault of the descriptor and each failed test of translation on the rounded item (R14, R19, R128); at
checks 7 to 9 a region OFFLINE or TRAINING, a source at its limit and a full pool (R23). A refused step marks no cursor. A step that passes the nine checks is given a context on the rounded item's aligned words under the captured ring, and the
cursor is marked in flight (R24, R128). -/
def Obligations.CursorStepTakenOrRefused : Prop :=
  (∀ (c : Instr) (p : Port) (h : Hdr) (cur : Fin 2) (code : Nat) (s : State),
    (c = .cursorRead p h cur ∧ code = 9) ∨ (∃ lo hi, c = .cursorWrite p h cur lo hi ∧ code = 10) →
    s.passesData c p h →
    let cu := s.cursor h.src cur
    (cu.isSet = false → exec c s = .next ((s.takeFrame p).respond p h code .cursorUnset []).finish) ∧
    (cu.isSet = true → cu.inFlight = true →
      exec c s = .next ((s.takeFrame p).respond p h code .cursorBusy []).finish) ∧
    (cu.isSet = true → cu.inFlight = false → cu.count = 0 →
      exec c s = .next ((s.takeFrame p).respond p h code .exhausted [word cu.pos, word 0]).finish) ∧
    (cu.isSet = true → cu.inFlight = false → 0 < cu.count →
      let d := s.segment cu.segment
      let q := cu.pos - cu.pos % cu.size
      let bracket := if code = 9 then d.readBracket.val else d.writeBracket.val
      let refused := fun (st : Status) => exec c s = .next ((s.takeFrame p).respond p h code st []).finish
      let passes := s.segmentFaults cu.segment = false ∧ d.kind = .direct ∧ q + cu.size ≤ d.limit * 4 ∧
        cu.ring.val ≤ bracket
      let isOpen := (s.region d.region).state ≠ .offline ∧ (s.region d.region).state ≠ .training
      (s.segmentFaults cu.segment = true →
        exec c s = .next
          (((s.takeFrame p).faultAt .table (.segment cu.segment)).respond p h code .contained []).finish) ∧
      (s.segmentFaults cu.segment = false → d.kind = .absent → refused .noSegment) ∧
      (s.segmentFaults cu.segment = false → d.kind = .indirect ∨ d.kind = .journal → refused .kindMismatch) ∧
      (s.segmentFaults cu.segment = false → d.kind = .direct → d.limit * 4 < q + cu.size → refused .bounds) ∧
      (s.segmentFaults cu.segment = false → d.kind = .direct → q + cu.size ≤ d.limit * 4 → bracket < cu.ring.val →
        refused .ringDenied) ∧
      (passes → ¬isOpen → refused .regionOffline) ∧
      (passes → isOpen → (s.source h.src).limit ≤ s.count h.src → refused .busy) ∧
      (passes → isOpen → s.count h.src < (s.source h.src).limit → (∀ i, (s.ctx i).state ≠ .free) →
        refused .noContext))) ∧
  ∀ (c : Instr) (k : ReqKind) (p : Port) (h : Hdr) (cur : Fin 2) (pl : List Word) (i : CtxId) (s : State),
    (c = .cursorRead p h cur ∧ k = .cursorRead ∧ pl = []) ∨
      (∃ lo hi, c = .cursorWrite p h cur lo hi ∧ k = .cursorWrite ∧ pl = [lo, hi]) →
    s.passesData c p h →
    let cu := s.cursor h.src cur
    let d := s.segment cu.segment
    let q := cu.pos - cu.pos % cu.size
    cu.isSet = true → cu.inFlight = false → 0 < cu.count → s.segmentFaults cu.segment = false →
    d.kind = .direct → q + cu.size ≤ d.limit * 4 →
    cu.ring.val ≤ (if k = .cursorRead then d.readBracket.val else d.writeBracket.val) →
    s.hasRoom h.src d.region i →
    exec c s = .next
      (((s.takeFrame p).allocate i
        { Context.free with
          state := .waiting, stage := .main, kind := k, source := h.src, tag := h.tag, port := p, ring := cu.ring,
          region := d.region, addr := d.base + q / 4, first := d.base + q / 4,
          last := d.base + q / 4 + (if cu.size = 8 then 2 else 1), length := (if cu.size = 8 then 2 else 1), payload := pl,
          cursor := cur, curPos := cu.pos, curRounded := q, curSize := cu.size }).takeTurn d.region).finish

/-- CURSOR_QUERY is answered at once with the whole record, and changes nothing of it (R127, Table 12-6). -/
def Obligations.CursorQueryAnswered : Prop :=
  ∀ (p : Port) (h : Hdr) (cur : Fin 2) (s : State), s.passesData (.cursorQuery p h cur) p h →
    let cu := s.cursor h.src cur
    exec (.cursorQuery p h cur) s = .next
      ((s.takeFrame p).respond p h 11 .ok
        [word ((if cu.isSet then 1 else 0) + (if cu.inFlight then 1 else 0) * 2 + cu.ring.val * 4 + cu.segment.val * 16 +
            cu.size * 16777216), word cu.pos, word cu.count]).finish

/-! ## The tables (Chapter 1) -/

/-- SOURCE_WRITE taken (R3, R6): every stored field is replaced with fresh parity, both cursors of the source become UNSET,
the entry leaves the poisoned set, and nothing else changes before the OK response. -/
def Obligations.SourceWriteTaken : Prop :=
  ∀ (p : Port) (h : Hdr) (i : SourceId) (f : SourceFields) (s : State),
    s.admits (.sourceWrite p h i.val f) p h → 1 ≤ f.limit → f.limit ≤ 8 →
    ¬(i = h.src ∧ (f.valid = false ∨ f.manager = false ∨ f.port ≠ (s.source i).port)) →
    s.count i = 0 → (s.cursor i 0).inFlight = false → (s.cursor i 1).inFlight = false →
    exec (.sourceWrite p h i.val f) s = .next
      (State.respond
        { s.takeFrame p with
          sources := s.sources.set i.val { fields := f, parityOk := true } i.isLt,
          cursors := (s.cursors.set (cursorIndex i 0).val .unset (cursorIndex i 0).isLt).set (cursorIndex i 1).val .unset
            (cursorIndex i 1).isLt,
          poisonedSources := s.poisonedSources.filter (· != i) } p h 1 .ok []).finish

/-- The self-lockout check of SOURCE_WRITE (R5), on any write whose limit is in range: the write of the requester's own
entry is refused SELF_LOCKOUT exactly where it clears valid, clears MANAGER or changes the bound port, whether or not the
source is busy; no other write is refused so; a write not refused so meets the busy check like any other. -/
def Obligations.SourceWriteSelfLockout : Prop :=
  ∀ (p : Port) (h : Hdr) (i : SourceId) (f : SourceFields) (s : State),
    s.admits (.sourceWrite p h i.val f) p h → 1 ≤ f.limit → f.limit ≤ 8 →
    let locks := i = h.src ∧ (f.valid = false ∨ f.manager = false ∨ f.port ≠ (s.source i).port)
    let busy := 0 < s.count i ∨ (s.cursor i 0).inFlight = true ∨ (s.cursor i 1).inFlight = true
    (locks → exec (.sourceWrite p h i.val f) s = .next ((s.takeFrame p).respond p h 1 .selfLockout []).finish) ∧
    (s.sourceWriteRefusal h i f = some .selfLockout ↔ locks) ∧
    (¬locks → busy → exec (.sourceWrite p h i.val f) s = .next ((s.takeFrame p).respond p h 1 .busy []).finish)

/-- SOURCE_WRITE and SEGMENT_WRITE with operands out of range are answered BAD_VALUE and change no table (R3, R9). -/
def Obligations.TableWriteOutOfRange : Prop :=
  (∀ (p : Port) (h : Hdr) (idx : Nat) (f : SourceFields) (s : State), s.admits (.sourceWrite p h idx f) p h →
    63 < idx ∨ f.limit < 1 ∨ 8 < f.limit →
    exec (.sourceWrite p h idx f) s = .next ((s.takeFrame p).respond p h 1 .badValue []).finish) ∧
  (∀ (p : Port) (h : Hdr) (seg : Nat) (d : SegOperands) (s : State), s.admits (.segmentWrite p h seg d) p h →
    511 < seg ∨
      (d.kind ≠ .absent ∧
        (7 < d.region ∨ 16777215 < d.base ∨ (d.block ≠ 1 ∧ d.block ≠ 4 ∧ d.block ≠ 8 ∧ d.block ≠ 16))) ∨
      (d.kind = .direct ∧ (d.limit < 1 ∨ 1048576 < d.limit ∨ 16777216 < d.base + d.limit)) ∨
      (d.kind = .journal ∧ (d.limit < 8 ∨ 1048576 < d.limit ∨ 16777216 < d.base + d.limit)) ∨
      (d.kind = .indirect ∧ 16777216 < d.base + 2) →
    exec (.segmentWrite p h seg d) s = .next ((s.takeFrame p).respond p h 3 .badValue []).finish)

/-- SEGMENT_WRITE taken (R9, R10): an ABSENT write stores the reset values whatever its other operands, an INDIRECT write
limit 2, every other write its operands; with fresh parity, off the poisoned set, and nothing else changes. -/
def Obligations.SegmentWriteTaken : Prop :=
  ∀ (p : Port) (h : Hdr) (i : SegNo) (d : SegOperands) (s : State), s.admits (.segmentWrite p h i.val d) p h →
    let fits := d.region ≤ 7 ∧ d.base ≤ 16777215 ∧ (d.block = 1 ∨ d.block = 4 ∨ d.block = 8 ∨ d.block = 16)
    let done := fun (x : Descriptor) => exec (.segmentWrite p h i.val d) s = .next
      (State.respond
        { s.takeFrame p with
          segments := s.segments.set i.val { desc := x, parityOk := true } i.isLt,
          poisonedSegments := s.poisonedSegments.filter (· != i) } p h 3 .ok []).finish
    (d.kind = .absent →
      done { kind := .absent, region := 0, base := 0, limit := 1, readBracket := 0, writeBracket := 0, order := .rotate,
             block := 1 }) ∧
    (d.kind = .indirect → fits → d.base + 2 ≤ 16777216 →
      done { kind := .indirect, region := Fin.ofNat 8 d.region, base := d.base, limit := 2, readBracket := d.readBracket,
             writeBracket := d.writeBracket, order := d.order, block := d.block }) ∧
    (d.kind = .direct ∨ d.kind = .journal → fits → (if d.kind = .direct then 1 else 8) ≤ d.limit → d.limit ≤ 1048576 →
      d.base + d.limit ≤ 16777216 →
      done { kind := d.kind, region := Fin.ofNat 8 d.region, base := d.base, limit := d.limit,
             readBracket := d.readBracket, writeBracket := d.writeBracket, order := d.order, block := d.block })

/-- SOURCE_READ and SEGMENT_READ (R7, R11, R19): BAD_VALUE above the table, POISONED for an entry in the poisoned set and for
one whose own read faults, and otherwise OK with the stored fields in the places of Tables 12-8 and 12-9, the outstanding
count beside the source's. -/
def Obligations.TableReadsAnswered : Prop :=
  let bit := fun (b : Bool) => if b then 1 else 0
  ([Port.A, .B, .C, .D].map Port.code = [0, 1, 2, 3]) ∧
  ([SegKind.absent, .direct, .indirect, .journal].map SegKind.code = [0, 1, 2, 3]) ∧
  (∀ (p : Port) (h : Hdr) (idx : Nat) (s : State), s.admits (.sourceRead p h idx) p h →
    (63 < idx → exec (.sourceRead p h idx) s = .next ((s.takeFrame p).respond p h 2 .badValue []).finish) ∧
    ∀ i : SourceId, i.val = idx →
      (i ∈ s.poisonedSources →
        exec (.sourceRead p h idx) s = .next ((s.takeFrame p).respond p h 2 .poisoned []).finish) ∧
      (i ∉ s.poisonedSources → s.sourceFaults i = true →
        exec (.sourceRead p h idx) s = .next
          (((s.takeFrame p).faultAt .table (.source i)).respond p h 2 .poisoned []).finish) ∧
      (i ∉ s.poisonedSources → s.sourceFaults i = false →
        exec (.sourceRead p h idx) s = .next
          (let f := s.source i
           (s.takeFrame p).respond p h 2 .ok
             [word (idx + bit f.valid * 256 + f.port.code * 512 + f.ring.val * 2048 + bit f.manager * 8192 +
               bit f.alertTarget * 16384 + f.limit * 65536 + s.count i * 1048576)]).finish)) ∧
  (∀ (p : Port) (h : Hdr) (seg : Nat) (s : State), s.admits (.segmentRead p h seg) p h →
    (511 < seg → exec (.segmentRead p h seg) s = .next ((s.takeFrame p).respond p h 4 .badValue []).finish) ∧
    ∀ i : SegNo, i.val = seg →
      (i ∈ s.poisonedSegments →
        exec (.segmentRead p h seg) s = .next ((s.takeFrame p).respond p h 4 .poisoned []).finish) ∧
      (i ∉ s.poisonedSegments → s.segmentFaults i = true →
        exec (.segmentRead p h seg) s = .next
          (((s.takeFrame p).faultAt .table (.segment i)).respond p h 4 .poisoned []).finish) ∧
      (i ∉ s.poisonedSegments → s.segmentFaults i = false →
        exec (.segmentRead p h seg) s = .next
          (let d := s.segment i
           (s.takeFrame p).respond p h 4 .ok
             [word (seg + d.kind.code * 4096 + d.region.val * 65536 + d.readBracket.val * 1048576 +
                d.writeBracket.val * 4194304 + (if d.order = .interchange then 1 else 0) * 16777216 + d.block * 33554432),
              word d.base, word d.limit]).finish))

/-! ## Region profiles (R85 to R89) -/

/-- PROFILE_WRITE of the clock group (R85, R86, Table 6-2): out of range BAD_VALUE; applied at once in OFFLINE, PARKED and
HALTED with the trained flag cleared and as many delays of 0 as the new bus width has lanes; WRONG_STATE elsewhere. -/
def Obligations.ClockGroupWrite : Prop :=
  ∀ (p : Port) (h : Hdr) (region : Nat) (g : ClockGroup) (s : State),
    s.admits (.profileWriteClock p h region g) p h →
    (7 < region ∨ g.divider < 1 ∨ 8 < g.divider →
      exec (.profileWriteClock p h region g) s = .next ((s.takeFrame p).respond p h 5 .badValue []).finish) ∧
    ∀ r : RegionId, r.val = region → 1 ≤ g.divider → g.divider ≤ 8 →
      ((s.region r).state = .offline ∨ (s.region r).state = .parked ∨ (s.region r).state = .halted →
        exec (.profileWriteClock p h region g) s = .next
          (((s.takeFrame p).setRegion r
            { s.region r with
              clock := g, clockOk := true, poison := { (s.region r).poison with clock := false }, trained := false,
              delays := if g.wide then [0, 0, 0, 0] else [0, 0] }).respond p h 5 .ok []).finish) ∧
      ((s.region r).state = .training ∨ (s.region r).state = .settling ∨ (s.region r).state = .online ∨
          (s.region r).state = .quiescing →
        exec (.profileWriteClock p h region g) s = .next ((s.takeFrame p).respond p h 5 .wrongState []).finish)

/-- PROFILE_WRITE of the timing group (R85, R87, R96, Table 6-2): out of range BAD_VALUE; applied at once and with no alert
in OFFLINE, PARKED and HALTED; in ONLINE applied at once through SETTLING for 2 microseconds with PROFILE_APPLIED where no
burst is in flight, and held pending through QUIESCING otherwise, off the poisoned entry each time (R89); BUSY elsewhere.
Log entry 26, the model's choice: a group held pending has no fresh parity before it is applied, so the parity flag stays
with the group in the profile. -/
def Obligations.TimingGroupWrite : Prop :=
  ∀ (p : Port) (h : Hdr) (region : Nat) (g : TimingGroup) (s : State),
    s.admits (.profileWriteTiming p h region g) p h →
    let good := (g.burst = 1 ∨ g.burst = 4 ∨ g.burst = 8 ∨ g.burst = 16) ∧
      (g.page = 16 ∨ g.page = 32 ∨ g.page = 64 ∨ g.page = 128 ∨ g.page = 256 ∨ g.page = 512 ∨ g.page = 1024) ∧
      1 ≤ g.first ∧ g.first ≤ 31 ∧ 1 ≤ g.hit ∧ g.hit ≤ 15 ∧ 1 ≤ g.readyLimit ∧ g.readyLimit ≤ 4095
    (7 < region ∨ ¬good →
      exec (.profileWriteTiming p h region g) s = .next ((s.takeFrame p).respond p h 5 .badValue []).finish) ∧
    ∀ r : RegionId, r.val = region → good →
      ((s.region r).state = .offline ∨ (s.region r).state = .parked ∨ (s.region r).state = .halted →
        exec (.profileWriteTiming p h region g) s = .next
          (((s.takeFrame p).setRegion r
            { s.region r with
              timing := g, timingOk := true,
              poison := { (s.region r).poison with timing := false } }).respond p h 5 .ok []).finish) ∧
      ((s.region r).state = .online → (s.region r).inFlight = false →
        exec (.profileWriteTiming p h region g) s = .next
          ((((s.takeFrame p).setRegion r
            { s.region r with
              timing := g, timingOk := true, due := false, patrolRead := none, state := .settling, settle := some 2,
              openPage := none, action := none, pendingTiming := none,
              poison := { (s.region r).poison with timing := false } }).raise (.profileApplied r)).respond
            p h 5 .ok []).finish) ∧
      ((s.region r).state = .online → (s.region r).inFlight = true →
        exec (.profileWriteTiming p h region g) s = .next
          (((s.takeFrame p).setRegion r
            { s.region r with
              due := false, patrolRead := none, state := .quiescing, action := some .apply,
              pendingTiming := some g,
              poison := { (s.region r).poison with timing := false } }).respond p h 5 .ok []).finish) ∧
      ((s.region r).state = .training ∨ (s.region r).state = .settling ∨ (s.region r).state = .quiescing →
        exec (.profileWriteTiming p h region g) s = .next ((s.takeFrame p).respond p h 5 .busy []).finish)

/-- PROFILE_WRITE of the patrol group (R85, R88), in every region state: out of range BAD_VALUE; it enters the profile at
once where no burst of the region is in flight, and is held as the written group otherwise; either way it is stored with
fresh parity (R134) and is off the poisoned entry (R89). -/
def Obligations.PatrolGroupWrite : Prop :=
  ∀ (p : Port) (h : Hdr) (region : Nat) (g : PatrolGroup) (s : State),
    s.admits (.profileWritePatrol p h region g) p h →
    (7 < region ∨ g.addr % 4 ≠ 0 ∨ 16777212 < g.addr →
      exec (.profileWritePatrol p h region g) s = .next ((s.takeFrame p).respond p h 5 .badValue []).finish) ∧
    ∀ r : RegionId, r.val = region → g.addr % 4 = 0 → g.addr ≤ 16777212 →
      ((s.region r).inFlight = false →
        exec (.profileWritePatrol p h region g) s = .next
          (((s.takeFrame p).setRegion r
            { s.region r with
              patrol := g, patrolOk := true, written := none,
              poison := { (s.region r).poison with patrol := false } }).respond p h 5 .ok []).finish) ∧
      ((s.region r).inFlight = true →
        exec (.profileWritePatrol p h region g) s = .next
          (((s.takeFrame p).setRegion r
            { s.region r with
              written := some g, patrolOk := true,
              poison := { (s.region r).poison with patrol := false } }).respond p h 5 .ok []).finish)

/-- PROFILE_READ (R89, R135): BAD_VALUE above 7, POISONED where the poisoned set names the profile or where a group's own
read faults, and otherwise OK with the ten words of Table 12-9, the patrol group among them as last written. -/
def Obligations.ProfileReadAnswered : Prop :=
  ([RegionState.offline, .training, .settling, .online, .quiescing, .parked, .halted].map RegionState.code = List.range 7) ∧
  ([PendingAction.apply, .park, .offline].map PendingAction.code = List.range 3) ∧
  ∀ (p : Port) (h : Hdr) (region : Nat) (s : State), s.admits (.profileRead p h region) p h →
    (7 < region → exec (.profileRead p h region) s = .next ((s.takeFrame p).respond p h 6 .badValue []).finish) ∧
    ∀ r : RegionId, r.val = region →
      let f := s.profileFaults r { clock := true, timing := true, patrol := true }
      ((s.region r).poison.any = true →
        exec (.profileRead p h region) s = .next ((s.takeFrame p).respond p h 6 .poisoned []).finish) ∧
      ((s.region r).poison.any = false → f.any = true →
        exec (.profileRead p h region) s = .next
          (((s.takeFrame p).faultAt .table (.profile r f)).respond p h 6 .poisoned []).finish) ∧
      ((s.region r).poison.any = false → f.any = false →
        exec (.profileRead p h region) s = .next
          (let g := s.region r
           let x := g.written.getD g.patrol
           let bit := fun (b : Bool) => if b then 1 else 0
           let prior := if g.state = .halted then (g.prior.map RegionState.code).getD 0 else 0
           let action :=
             if g.state = .quiescing then (g.action.map PendingAction.code).getD 0
             else if g.state = .halted ∧ g.prior = some .quiescing then (g.priorAction.map PendingAction.code).getD 0
             else 0
           (s.takeFrame p).respond p h 6 .ok
             ([word (bit g.clock.sync + bit g.clock.wide * 2 + g.clock.divider * 16 + bit g.clock.parityLane * 256 +
                 bit g.trained * 2 ^ 16 + g.state.code * 2 ^ 20 + prior * 2 ^ 24 + action * 2 ^ 28),
               word (g.timing.burst + bit g.timing.nativeWrap * 32 + g.timing.page * 256 + g.timing.first * 2 ^ 20 +
                 g.timing.hit * 2 ^ 25),
               word (bit g.timing.monitor + g.timing.readyLimit * 16), word (bit x.enable), word x.addr] ++
               x.pattern.toList ++
               [word (g.delays.getD 0 0 + g.delays.getD 1 0 * 2 ^ 8 + g.delays.getD 2 0 * 2 ^ 16 +
                 g.delays.getD 3 0 * 2 ^ 24)])).finish)

/-! ## Region commands (R91 to R99) -/

/-- The five actions of REGION_COMMAND (R91): in CONTAINED the command is refused WRONG_STATE with an empty result mask and
touches no region; otherwise every masked region takes the action or refuses it, and the answer carries the result mask and
the status of the refusals. Log entry 33, the model's choice: the regions are visited in ascending number. -/
def Obligations.RegionCommandAnswered : Prop :=
  (∀ (c : Instr) (act : State → RegionId → Except Status State) (p : Port) (h : Hdr) (mask : BitVec 8) (s : State),
    (c = .regionCommandOnline p h mask ∧ act = State.online) ∨ (c = .regionCommandOffline p h mask ∧ act = State.offline) ∨
      (c = .regionCommandPark p h mask ∧ act = State.parkRegion) ∨
      (c = .regionCommandUnpark p h mask ∧ act = State.unpark) ∨ (c = .regionCommandTrain p h mask ∧ act = State.train) →
    s.admits c p h →
    (s.mode = .contained → exec c s = .next ((s.takeFrame p).respond p h 7 .wrongState [0]).finish) ∧
    (s.mode ≠ .contained →
      let x := ((List.finRange 8).filter fun r => mask.getLsbD r.val).foldl (Progress.visit act)
        { state := s.takeFrame p, taken := [], reasons := [] }
      exec c s = .next (x.state.respond p h 7 (commandStatus x.reasons) [maskWord x.taken]).finish)) ∧
  (∀ (act : State → RegionId → Except Status State) (x : Progress) (r : RegionId),
    (∀ t, act x.state r = .ok t → Progress.visit act x r = { x with state := t, taken := x.taken ++ [r] }) ∧
    (∀ e, act x.state r = .error e → Progress.visit act x r = { x with reasons := x.reasons ++ [e] })) ∧
  (∀ reasons : List Status,
    (reasons = [] → commandStatus reasons = .ok) ∧
    (reasons ≠ [] → (∀ e ∈ reasons, e = .busy) → commandStatus reasons = .busy) ∧
    (reasons ≠ [] → (∀ e ∈ reasons, e = .notTrained) → commandStatus reasons = .notTrained) ∧
    (¬(∀ e ∈ reasons, e = .busy) → ¬(∀ e ∈ reasons, e = .notTrained) → commandStatus reasons = .wrongState)) ∧
  (∀ (taken : List RegionId) (r : RegionId), (maskWord taken).getLsbD r.val = decide (r ∈ taken))

/-- ONLINE, PARK and UNPARK on one region, in every region state (R92, R93, R97, R98, Table 6-4). -/
def Obligations.OnlineParkUnparkTable : Prop :=
  ∀ (s : State) (r : RegionId),
    let g := s.region r
    let up := g.clock.sync = false ∨ g.trained = true
    (g.state = .offline → up → s.online r = .ok (s.setRegion r
      { g with state := .settling, settle := some 10, openPage := none, action := none, pendingTiming := none })) ∧
    (g.state = .offline → ¬up → s.online r = .error .notTrained) ∧
    (g.state ≠ .offline → s.online r = .error .wrongState) ∧
    (g.state = .online → g.inFlight = true → s.parkRegion r = .ok (s.setRegion r
      { g with due := false, patrolRead := none, state := .quiescing, action := some .park })) ∧
    (g.state = .online → g.inFlight = false → s.parkRegion r = .ok (s.setRegion r
      { g with due := false, patrolRead := none, state := .parked, action := none, pendingTiming := none })) ∧
    (g.state = .settling ∨ g.state = .quiescing → s.parkRegion r = .error .busy) ∧
    (g.state ≠ .online → g.state ≠ .settling → g.state ≠ .quiescing → s.parkRegion r = .error .wrongState) ∧
    (g.state = .parked → up → s.unpark r = .ok (s.setRegion r
      { g with state := .settling, settle := some 50, openPage := none, action := none, pendingTiming := none })) ∧
    (g.state = .parked → ¬up → s.unpark r = .ok ((s.enterOffline r).raise (.regionLost r))) ∧
    (g.state ≠ .parked → s.unpark r = .error .wrongState)

/-- OFFLINE on one region, in every region state (R94, R95, R103, R108): refused only by an OFFLINE region (and by a HALTED
one, which no command reaches); a burst in flight in ONLINE makes it QUIESCING; a training is aborted: the region is
untrained with its lane delays 0 and its training record gone, the holder of the strobe-feedback inputs releases them to the
head of the waiting list and another region gives up its place there, and the region enters OFFLINE, with nothing else
changed and no flag set. -/
def Obligations.OfflineActionTable : Prop :=
  ∀ (s : State) (r : RegionId),
    let g := s.region r
    (g.state = .offline ∨ g.state = .halted → s.offline r = .error .wrongState) ∧
    (g.state = .settling ∨ g.state = .parked → s.offline r = .ok (s.enterOffline r)) ∧
    (g.state = .online → g.inFlight = false → s.offline r = .ok (s.enterOffline r)) ∧
    (g.state = .online → g.inFlight = true → s.offline r = .ok (s.setRegion r
      { g with due := false, patrolRead := none, state := .quiescing, action := some .offline })) ∧
    (g.state = .quiescing → s.offline r = .ok (s.setRegion r
      { g with action := some .offline, pendingTiming := none })) ∧
    (g.state = .training →
      let u := s.setRegion r
        { g with trained := false, delays := if g.clock.wide then [0, 0, 0, 0] else [0, 0], training := none }
      (s.holder = some r → s.waiting = [] → s.offline r = .ok ({ u with holder := none }.enterOffline r)) ∧
      (∀ q rest, s.holder = some r → s.waiting = q :: rest →
        s.offline r = .ok (({ u with waiting := rest }.takeInputs q).enterOffline r)) ∧
      (s.holder ≠ some r → s.offline r = .ok ({ u with waiting := s.waiting.erase r }.enterOffline r)))

/-- Entry into OFFLINE (R31, R95): the contexts of the queue end REGION_OFFLINE from head to tail; the queue is empty, the
turn pointer at its head, the settle timer, the pending action and group, patrol-due, the patrol read and the training
record are gone; the profile, the trained flag, the delays, the burst on the bus and all else of the region stay. -/
def Obligations.EntryIntoOffline : Prop :=
  ∀ (s : State) (r : RegionId),
    let t := s.enterOffline r
    let g := t.region r
    t = ((s.region r).queue.foldl (fun u i => u.endCtx i .regionOffline []) s).setRegion r g ∧
    g = { s.region r with
          state := .offline, queue := [], turn := 0, settle := none, action := none, pendingTiming := none, due := false,
          patrolRead := none, training := none } ∧
    t.alerts = s.alerts

/-- TRAIN on one region (R99, R102, R103): taken by an OFFLINE SYNC region with no burst on its bus; its training record is
new, and it takes the strobe-feedback inputs with its first probe where they are free and no region waits, and joins the
waiting list otherwise. -/
def Obligations.TrainActionTable : Prop :=
  ∀ (s : State) (r : RegionId),
    let g := s.region r
    let lanes := if g.clock.wide then 4 else 2
    let begun := fun (awaiting : Bool) =>
      { g with
        trained := false, delays := List.replicate lanes 0, state := .training,
        training := some { k := 0, seek := List.replicate lanes .zero, samples := List.replicate lanes none,
                           awaiting := awaiting } }
    (g.state ≠ .offline ∨ g.clock.sync = false → s.train r = .error .wrongState) ∧
    (g.state = .offline → g.clock.sync = true → g.burst.isSome = true → s.train r = .error .busy) ∧
    (g.state = .offline → g.clock.sync = true → g.burst = none → s.holder = none → s.waiting = [] →
      s.train r = .ok { s.setRegion r (begun true) with holder := some r }) ∧
    (g.state = .offline → g.clock.sync = true → g.burst = none → s.holder ≠ none ∨ s.waiting ≠ [] →
      s.train r = .ok { s.setRegion r (begun false) with waiting := s.waiting ++ [r] })

/-! ## Control (R136 to R138, R145, R152 to R158) -/

/-- PORT_CONTROL (R152): the action is applied port by port and answered OK; a DISABLE that names the arrival port is refused
SELF_LOCKOUT. An enabled receiver is sent a restore of its free slots where it was disabled, and an enabled transmitter may
begin to send; a disabled transmitter loses its egress queue and its delivery list, whose contexts are released with their
sources' counts lowered, while a frame being sent goes on. A port may be named in both masks, and an item that has its state
already changes nothing. -/
def Obligations.PortControl : Prop :=
  (∀ (p : Port) (h : Hdr) (rx tx : BitVec 4) (s : State), s.admits (.portControlEnable p h rx tx) p h →
    exec (.portControlEnable p h rx tx) s = .next
      (([Port.A, .B, .C, .D].foldl (State.enablePort rx tx) (s.takeFrame p)).respond p h 8 .ok []).finish) ∧
  (∀ (p : Port) (h : Hdr) (rx tx : BitVec 4) (s : State), s.admits (.portControlDisable p h rx tx) p h →
    (rx.getLsbD (portIndex p) = true ∨ tx.getLsbD (portIndex p) = true →
      exec (.portControlDisable p h rx tx) s = .next ((s.takeFrame p).respond p h 8 .selfLockout []).finish) ∧
    (rx.getLsbD (portIndex p) = false → tx.getLsbD (portIndex p) = false →
      exec (.portControlDisable p h rx tx) s = .next
        (([Port.A, .B, .C, .D].foldl (State.disablePort rx tx) (s.takeFrame p)).respond p h 8 .ok []).finish)) ∧
  (∀ (q : Port) (rx tx : BitVec 4) (s : State),
    let x := s.port q
    let rxUp := rx.getLsbD (portIndex q) = true ∧ x.rxOn = false
    let txUp := tx.getLsbD (portIndex q) = true ∧ x.txOn = false
    let restored := x.signals ++ [.restore (8 - x.ingress.length)]
    (rxUp → ¬txUp → State.enablePort rx tx s q = s.setPort q { x with rxOn := true, signals := restored }) ∧
    (¬rxUp → txUp → State.enablePort rx tx s q = (s.setPort q { x with txOn := true }).trySend q) ∧
    (rxUp → txUp →
      State.enablePort rx tx s q = (s.setPort q { x with rxOn := true, txOn := true, signals := restored }).trySend q) ∧
    (¬rxUp → ¬txUp → State.enablePort rx tx s q = s)) ∧
  (∀ (q : Port) (rx tx : BitVec 4) (s : State),
    let x := s.port q
    let rxDown := rx.getLsbD (portIndex q) = true
    let txDown := tx.getLsbD (portIndex q) = true ∧ x.txOn = true
    let t := State.disablePort rx tx s q
    (¬rxDown → ¬txDown → t = s) ∧
    (rxDown → ¬txDown → t = s.setPort q { x with rxOn := false }) ∧
    (txDown →
      t = { s with ports := t.ports, ctxs := t.ctxs, counts := t.counts } ∧
      (¬rxDown → t.port q = { x with txOn := false, egress := [], delivery := [] }) ∧
      (rxDown → t.port q = { x with rxOn := false, txOn := false, egress := [], delivery := [] }) ∧
      (∀ y, y ≠ q → t.port y = s.port y) ∧
      (∀ i, i ∈ x.delivery → t.ctx i = .free) ∧ (∀ i, i ∉ x.delivery → t.ctx i = s.ctx i) ∧
      (x.delivery.Nodup → ∀ j, t.count j =
        s.count j - (x.delivery.filter fun i => (s.ctx i).source == j).length)))

/-- CHECK_CONTROL (R136, R137): ENABLE sets the check enable; DISABLE clears it and all four injection flags; INJECT of one
of the four checks is refused WRONG_STATE while the checks are disabled and otherwise sets its flag once its own response
has been assembled. Log entry 37, the model's choice: that response meets an EGRESS injection already pending, which
withholds it, and the flag is then set again. Log entry 18, the model's choice: a check code above 3 is answered BAD_VALUE
also while they are disabled. -/
def Obligations.CheckControl : Prop :=
  ∀ (p : Port) (h : Hdr) (s : State),
    (s.admits (.checkControlEnable p h) p h →
      exec (.checkControlEnable p h) s = .next
        (State.respond { s.takeFrame p with checks := true } p h 9 .ok []).finish) ∧
    (s.admits (.checkControlDisable p h) p h →
      exec (.checkControlDisable p h) s = .next
        (State.respond
          { s.takeFrame p with
            checks := false, inject := { table := false, context := false, memory := false, egress := false } }
          p h 9 .ok []).finish) ∧
    (∀ check, s.admits (.checkControlInject p h check) p h →
      let u := (s.takeFrame p).respond p h 9 .ok []
      (3 < check → exec (.checkControlInject p h check) s = .next ((s.takeFrame p).respond p h 9 .badValue []).finish) ∧
      (check ≤ 3 → s.checks = false →
        exec (.checkControlInject p h check) s = .next ((s.takeFrame p).respond p h 9 .wrongState []).finish) ∧
      (s.checks = true → check = 0 →
        exec (.checkControlInject p h check) s =
          .next (State.finish { u with inject := { u.inject with table := true } })) ∧
      (s.checks = true → check = 1 →
        exec (.checkControlInject p h check) s =
          .next (State.finish { u with inject := { u.inject with context := true } })) ∧
      (s.checks = true → check = 2 →
        exec (.checkControlInject p h check) s =
          .next (State.finish { u with inject := { u.inject with memory := true } })) ∧
      (s.checks = true → check = 3 →
        exec (.checkControlInject p h check) s =
          .next (State.finish { u with inject := { u.inject with egress := true } })))

/-- PATROL_SET sets the patrol interval, and refuses one above 255 (R138); ALERT_CONTROL enables or disables the masked kinds
and ALERT_CLEAR clears the masked flags, in every mode (R156). START makes CONFIG RUN, and is refused WRONG_STATE in RUN and
in CONTAINED, where it changes nothing (R154). -/
def Obligations.PatrolAlertAndModeRegisters : Prop :=
  ∀ (p : Port) (h : Hdr) (s : State),
    (∀ v, s.admits (.patrolSet p h v) p h →
      (255 < v → exec (.patrolSet p h v) s = .next ((s.takeFrame p).respond p h 10 .badValue []).finish) ∧
      (v ≤ 255 → exec (.patrolSet p h v) s = .next
        (State.respond { s.takeFrame p with patrolInterval := v } p h 10 .ok []).finish)) ∧
    (∀ m, s.admits (.alertControlEnable p h m) p h →
      exec (.alertControlEnable p h m) s = .next
        (State.respond { s.takeFrame p with alertMask := s.alertMask ||| m } p h 12 .ok []).finish) ∧
    (∀ m, s.admits (.alertControlDisable p h m) p h →
      exec (.alertControlDisable p h m) s = .next
        (State.respond { s.takeFrame p with alertMask := s.alertMask &&& ~~~m } p h 12 .ok []).finish) ∧
    (∀ m, s.admits (.alertClear p h m) p h →
      exec (.alertClear p h m) s = .next
        (State.respond { s.takeFrame p with alerts := s.alerts &&& ~~~m } p h 13 .ok []).finish) ∧
    (s.admits (.start p h) p h →
      (s.mode = .config →
        exec (.start p h) s = .next (State.respond { s.takeFrame p with mode := .run } p h 14 .ok []).finish) ∧
      (s.mode = .run ∨ s.mode = .contained →
        exec (.start p h) s = .next ((s.takeFrame p).respond p h 14 .wrongState []).finish))

/-- STATUS_READ (R158): in every mode it is answered OK with the mode, the containment record, the size of the poisoned set,
the alert flags, the port enables, the number of non-FREE contexts and the region states, as they stand at its acceptance
and in the places of Table 12-9, and it changes nothing else; a TABLE fault of its source entry answers it CONTAINED. Log
entry 17, the model's choice: the detail value is 0 for a region profile and for an EGRESS fault that names no context, bits
that a cause gives no meaning are 0, and both words are 0 while the cause is none. -/
def Obligations.StatusReadAnswered : Prop :=
  ([RegionState.offline, .training, .settling, .online, .quiescing, .parked, .halted].map RegionState.code = List.range 7) ∧
  ([DeviceMode.config, .run, .contained].map DeviceMode.code = List.range 3) ∧
  (∀ (i : SourceId) (j : SegNo) (k : CtxId) (r : RegionId) (a : Nat),
    (FaultItem.source i).recordNat = 1 ∧ (FaultItem.source i).detail = i.val ∧
    (FaultItem.segment j).recordNat = 1 + 1 * 256 ∧ (FaultItem.segment j).detail = j.val ∧
    (∀ g : Groups, (FaultItem.profile r g).recordNat = 1 + 2 * 256 + r.val * 4096 + (if g.clock then 65536 else 0) +
      (if g.timing then 131072 else 0) + (if g.patrol then 262144 else 0) ∧ (FaultItem.profile r g).detail = 0) ∧
    (FaultItem.context k).recordNat = 2 ∧ (FaultItem.context k).detail = k.val ∧
    (FaultItem.memory r a).recordNat = 3 + r.val * 4096 ∧ (FaultItem.memory r a).detail = a ∧
    (∀ p, (FaultItem.egress p (some k)).recordNat = 4 + 32 + portIndex p * 4096 ∧
      (FaultItem.egress p (some k)).detail = k.val ∧ (FaultItem.egress p none).recordNat = 4 + portIndex p * 4096 ∧
      (FaultItem.egress p none).detail = 0) ∧
    (FaultItem.patrol r a).recordNat = 5 + r.val * 4096 ∧ (FaultItem.patrol r a).detail = a) ∧
  ∀ (p : Port) (h : Hdr) (s : State),
    let bit := fun (b : Bool) => if b then 1 else 0
    let st := fun (r : RegionId) => (s.region r).state.code
    (s.admits (.statusRead p h) p h →
      exec (.statusRead p h) s = .next
        ((s.takeFrame p).respond p h 11 .ok
          [word (s.mode.code + ((List.finRange 32).filter fun i => (s.ctx i).state != .free).length * 256 +
              (s.poisonedSources.length + s.poisonedSegments.length +
                ((List.finRange 8).filter fun r => (s.region r).poison.any).length) * 65536),
           (match s.record with
            | none => 0
            | some c => word (c.item.recordNat + (if c.prior = .run then 16 else 0))),
           (match s.record with
            | none => 0
            | some c => word c.item.detail),
           word (bit (s.port .A).rxOn + bit (s.port .B).rxOn * 2 + bit (s.port .C).rxOn * 4 + bit (s.port .D).rxOn * 8 +
             bit (s.port .A).txOn * 16 + bit (s.port .B).txOn * 32 + bit (s.port .C).txOn * 64 + bit (s.port .D).txOn * 128 +
             st 0 * 2 ^ 8 + st 1 * 2 ^ 11 + st 2 * 2 ^ 14 + st 3 * 2 ^ 17 + st 4 * 2 ^ 20 + st 5 * 2 ^ 23 + st 6 * 2 ^ 26 +
             st 7 * 2 ^ 29),
           s.alerts.extractLsb' 0 32, s.alerts.extractLsb' 32 32]).finish) ∧
    (s.nextAcceptance = some (.statusRead p h) → s.sourceFaults h.src = true →
      exec (.statusRead p h) s = .next
        (((s.takeFrame p).faultAt .table (.source h.src)).respond p h 11 .contained []).finish)

/-- SOFT_RESET (R155): refused in CONTAINED; otherwise the contexts are freed, the counts 0, the service queues, turn
pointers, patrol-due and patrol reads cleared with every burst abandoned, the cursors UNSET, the port queues emptied with a
restore of 8 on each enabled receiver, the alert flags cleared and the mode CONFIG. A written patrol group enters the
profile as its region's burst is abandoned (R88), with the parity it has. Everything else is left: the tables, the rest of
each profile, the poisoned set and groups, the region states with their timers, actions and trainings, the checks and
injections, the record and FAIL, and attached memory. -/
def Obligations.SoftResetEffect : Prop :=
  (∀ (p : Port) (h : Hdr) (s : State), s.admits (.softReset p h) p h →
    (s.mode = .contained → exec (.softReset p h) s = .next ((s.takeFrame p).respond p h 15 .wrongState []).finish) ∧
    (s.mode ≠ .contained → exec (.softReset p h) s = .next ((s.takeFrame p).softReset.respond p h 15 .ok []).finish)) ∧
  ∀ s : State,
    let t := s.softReset
    t = { s with
          ctxs := t.ctxs, counts := t.counts, cursors := t.cursors, ports := t.ports, regions := t.regions, alerts := 0,
          raised := 0, mode := .config } ∧
    (∀ i, t.ctx i = .free) ∧ (∀ j, t.count j = 0) ∧ (∀ j k, t.cursor j k = .unset) ∧
    (∀ p, t.port p =
      { s.port p with
        ingress := [], egress := [], delivery := [],
        signals := (s.port p).signals ++ (if (s.port p).rxOn then [.restore 8] else []) }) ∧
    (∀ r, t.region r =
      { s.region r with
        queue := [], turn := 0, due := false, patrolRead := none,
        burst := (s.region r).burst.map fun b => { b with abandoned := true },
        patrol := (s.region r).written.getD (s.region r).patrol, written := none })

/-- CLEAR_CONTAINMENT (R145): WRONG_STATE outside CONTAINED, POISONED while the poisoned set is not empty, and otherwise the
prior mode, FAIL released, every region off HALTED and the record cleared, with nothing else changed. The HALTED exit mapping
(Table 6-5, R101), on every recorded prior state: to OFFLINE, to PARKED, or to SETTLING for 10 microseconds where the region
is ASYNC or SYNC trained; the recorded state and action are cleared. -/
def Obligations.ClearContainmentTakenOrRefused : Prop :=
  (∀ (p : Port) (h : Hdr) (s : State), s.admits (.clearContainment p h) p h →
    (s.mode ≠ .contained →
      exec (.clearContainment p h) s = .next ((s.takeFrame p).respond p h 16 .wrongState []).finish) ∧
    (s.mode = .contained →
      ¬(s.poisonedSources = [] ∧ s.poisonedSegments = [] ∧ ∀ r, (s.region r).poison.any = false) →
      exec (.clearContainment p h) s = .next ((s.takeFrame p).respond p h 16 .poisoned []).finish) ∧
    (∀ c, s.mode = .contained → s.poisonedSources = [] → s.poisonedSegments = [] →
      (∀ r, (s.region r).poison.any = false) → s.record = some c →
      exec (.clearContainment p h) s = .next
        (State.respond
          { s.takeFrame p with
            mode := c.prior, failPin := false, regions := s.regions.map Region.leaveHalted, record := none }
          p h 16 .ok []).finish)) ∧
  ∀ (g : Region),
    let t := g.leaveHalted
    let up := g.clock.sync = false ∨ g.trained = true
    (g.prior = some .offline ∨ g.prior = some .training → t.state = .offline) ∧
    (g.prior = some .parked → t.state = .parked) ∧
    (g.prior = some .quiescing → g.priorAction = some .park → t.state = .parked) ∧
    (g.prior = some .settling ∨ g.prior = some .online ∨
        (g.prior = some .quiescing ∧ (g.priorAction = some .apply ∨ g.priorAction = some .offline)) →
      (up → t.state = .settling ∧ t.settle = some 10 ∧ t.openPage = none) ∧ (¬up → t.state = .offline)) ∧
    t = { g with
          state := t.state, settle := t.settle, openPage := t.openPage, queue := t.queue, turn := t.turn, due := t.due,
          patrolRead := t.patrolRead, training := t.training, prior := none, priorAction := none, action := none,
          pendingTiming := none }

/-! ## Bursts (R59, R61 to R69) -/

/-- The accesses of Table 4-2 but those of the multi-access sequences, the cut of a linear access (R61) and the plans of
every access (R62, R78 to R81): the bursts are contiguous from the first word, cover the access, lie each in one aligned group
of the burst length, and end at multiples of it. -/
def Obligations.BurstCut : Prop :=
  (∀ b a n : Nat, 0 < b →
    let l := cut b a n
    (l.map Piece.len).sum = n ∧
    ∀ k (pc : Piece), l[k]? = some pc →
      pc.addr = a + ((l.take k).map Piece.len).sum ∧ 0 < pc.len ∧ pc.wrap = false ∧
      (pc.addr + pc.len - 1) / b = pc.addr / b ∧ (k + 1 < l.length → (pc.addr + pc.len) % b = 0)) ∧
  (∀ c : Context,
    (c.stage = .link → c.access = { addr := c.addr, len := 2, write := false }) ∧
    (c.stage = .main → c.kind = .read ∨ c.kind = .cursorRead →
      c.access = { addr := c.addr, len := c.length, write := false }) ∧
    (c.stage = .main → c.kind = .write ∨ c.kind = .cursorWrite →
      c.access = { addr := c.addr, len := c.length, write := true })) ∧
  (∀ (c : Context) (cl : ClockGroup) (tm : TimingGroup),
    (c.stage = .link → c.plan cl tm = cut tm.burst c.addr 2) ∧
    (c.stage = .main → c.wrap = none →
      c.plan cl tm = cut (if c.access.write ∧ cl.sync = false then 1 else tm.burst) c.access.addr c.access.len) ∧
    (∀ w, c.stage = .main → c.kind = .read → c.wrap = some w →
      (w.order = .rotate → cl.sync = true → tm.nativeWrap = true → tm.burst = w.block →
        c.plan cl tm = [{ addr := c.addr, len := w.block, wrap := true }]) ∧
      (w.order = .rotate → ¬(cl.sync = true ∧ tm.nativeWrap = true ∧ tm.burst = w.block) →
        c.plan cl tm = cut tm.burst c.addr (w.base + w.block - c.addr) ++ cut tm.burst w.base (c.addr - w.base)) ∧
      (w.order = .interchange → c.plan cl tm = cut tm.burst w.base w.block)))

/-- The burst turn (R55, R57, R59, R60, R63): a region that is not ONLINE or has a burst on its bus takes none; a patrol
read due in RUN goes first; otherwise the first entry after the turn pointer that no earlier conflicting context holds, by the
writers and readers of Table 4-1, is issued its next burst, with its latency from the open page, and the pointer is placed
after it. A turn whose CONTEXT or TABLE check point faults issues no burst, and the fault is taken (R89, R134). The model's
choices: the CONTEXT check point is examined before the TABLE check point (log entry 10), and the bursts left of an access
are those of its old cut also where its region's device class has changed since (log entry 34). -/
def Obligations.BurstTurn : Prop :=
  (∀ c : Context, c.writer = true ↔ c.stage = .main ∧
    (c.kind = .write ∨ c.kind = .compareSwap ∨ c.kind = .append ∨ c.kind = .journalRestart ∨ c.kind = .cursorWrite)) ∧
  (∀ c e : Context, c.heldBy e = true ↔
    (∃ a, c.first ≤ a ∧ a < c.last ∧ e.first ≤ a ∧ a < e.last) ∧ (c.writer = true ∨ e.writer = true)) ∧
  ∀ (s : State) (r : RegionId),
    let g := s.region r
    let held := fun (k : Nat) (i : CtxId) => ∃ j ∈ g.queue.take k, (s.ctx i).heldBy (s.ctx j) = true
    let page := fun (a : Nat) => a / g.timing.page
    let latency := fun (a : Nat) => if g.openPage = some (page a) then g.timing.hit else g.timing.first
    let next := fun (k : Nat) (i : CtxId) =>
      g.state = .online ∧ g.burst = none ∧ ¬(g.due = true ∧ s.mode = .run) ∧ g.queue[k]? = some i ∧ ¬held k i ∧
        ∀ k' i', g.queue[k']? = some i' →
          (g.turn ≤ k ∧ g.turn ≤ k' ∧ k' < k) ∨ (k < g.turn ∧ (g.turn ≤ k' ∨ k' < k)) → held k' i'
    let patrolNext := g.state = .online ∧ g.burst = none ∧ g.due = true ∧ s.mode = .run
    let two : Groups := { clock := true, timing := true, patrol := false }
    let three : Groups := { clock := true, timing := true, patrol := true }
    (g.state ≠ .online ∨ g.burst ≠ none → s.takeTurn r = s) ∧
    (g.state = .online → g.burst = none → ¬(g.due = true ∧ s.mode = .run) →
      (∀ k i, g.queue[k]? = some i → held k i) → s.takeTurn r = s) ∧
    (∀ k i, next k i → s.contextFaults i = true → s.takeTurn r = s.faultAt .context (.context i)) ∧
    (∀ k i, next k i → s.contextFaults i = false → (s.profileFaults r two).any = true →
      s.takeTurn r = s.faultAt .table (.profile r (s.profileFaults r two))) ∧
    (∀ k i pc rest, next k i → s.contextFaults i = false → (s.profileFaults r two).any = false →
      (s.ctx i).pieces.getD ((s.ctx i).plan g.clock g.timing) = pc :: rest →
      s.takeTurn r =
        (s.setCtx i { (s.ctx i).openAccess with state := .serving, pieces := some rest, parityOk := true }).setRegion r
          { g with
            burst := some
              { owner := .ctx i, addr := pc.addr, len := pc.len, wrap := pc.wrap, write := (s.ctx i).access.write,
                data := if (s.ctx i).access.write then (List.range pc.len).map fun j => (s.ctx i).datum (pc.addr + j) else [],
                clock := g.clock, timing := g.timing, latency := latency pc.addr, abandoned := false },
            openPage := some (page pc.addr), turn := k + 1 }) ∧
    (patrolNext → (s.profileFaults r three).any = true →
      s.takeTurn r = s.faultAt .table (.profile r (s.profileFaults r three))) ∧
    (∀ pr pc rest, patrolNext → (s.profileFaults r three).any = false →
      pr = g.patrolRead.getD
        { addr := g.patrol.addr, pattern := g.patrol.pattern, rest := cut g.timing.burst g.patrol.addr 4, words := [] } →
      pr.rest = pc :: rest →
      s.takeTurn r = s.setRegion r
        { g with
          burst := some
            { owner := .patrol, addr := pc.addr, len := pc.len, wrap := pc.wrap, write := false, data := [],
              clock := g.clock, timing := g.timing, latency := latency pc.addr, abandoned := false },
          openPage := some (page pc.addr), patrolRead := some { pr with rest := rest } }) ∧
    (∀ c : Context,
      (c.pieces = none → c.kind = .append ∨ c.kind = .journalRestart →
        c.openAccess = { c with length := c.access.len, progress := 0, scratch := [] }) ∧
      (c.pieces ≠ none ∨ (c.kind ≠ .append ∧ c.kind ≠ .journalRestart) → c.openAccess = c))

/-- What a write burst does to attached memory (R30, R62, R66, R134): on each word the device has taken, each enabled lane
holds its byte, with parity exactly where the region has a parity lane; every other byte of memory is as it was, and a read
burst changes none. Log entry 19, the model's choice: parity is held byte lane by byte lane. -/
def Obligations.WriteBurstStoresWords : Prop :=
  ∀ (b : Burst) (r : RegionId) (taken : Nat → Bool) (m : Memory),
    (b.write = false → b.land r taken m = m) ∧
    (m.wf = true → b.write = true → b.wrap = false → b.inRange = true → b.data.length = b.len →
      (b.land r taken m).wf = true ∧
      (∀ (k : Nat) (w : Word) (e : BitVec 4), b.data[k]? = some (w, e) → taken k = true →
        (∀ l, l < 4 → e.getLsbD l = true →
          (b.land r taken m).byte (byteAddr r (b.addr + k) l) = lane w l ∧
          (b.land r taken m).parityAt (byteAddr r (b.addr + k) l) = b.clock.parityLane) ∧
        (∀ l, l < 4 → e.getLsbD l = false →
          (b.land r taken m).byte (byteAddr r (b.addr + k) l) = m.byte (byteAddr r (b.addr + k) l)) ∧
        (e = 15#4 → (b.land r taken m).readWord r (b.addr + k) = w)) ∧
      (∀ x, (∀ k, k < b.len → taken k = true → ∀ l, l < 4 → x ≠ byteAddr r (b.addr + k) l) →
        (b.land r taken m).byte x = m.byte x ∧ (b.land r taken m).parityAt x = m.parityAt x))

/-- BURST_COMPLETION (R28, R29, R64) of the burst that holds the shared pins, which falls free (R71). With no fault at its
MEMORY check point the context's progress rises by the burst's words and the words read are placed; at the last burst of its
access the access ends; then the pending action of QUIESCING is carried out, the delivery lists are served and turns are
taken. A MEMORY fault is taken instead. A written patrol group enters the profile as the burst leaves the bus, with the
parity it has (R88). The model's choices: the lists are served before the turns (log entry 9), and the turn of a region that
a context has moved to comes first (log entry 11); a region with no burst in flight, or whose burst waits for the pins, has
no such event (log entry 1); and a burst beyond the region stops the model (log entry 20). The words of a read burst, in
carried order, are those of its addresses, which a native wrap burst takes from its start word on, wrapping within its block
(R79). Each has the word and the parity of attached memory, the parity good where it is on all four lanes (log entry 19),
but for the words at which the command carries what the device put on the bus instead (log entry 5). -/
def Obligations.BurstCompletionAdvances : Prop :=
  (∀ (r : RegionId) (dev : List BusDeviation) (b : Burst) (s : State),
    (s.region r).burst = some b →
    let samples := b.samples r dev s.mem
    let ws := samples.map fun w => (w.1, w.2.1)
    let u := { s.setRegion r (s.region r).endBurst with mem := b.land r (fun _ => true) s.mem, pins := none }
    let advanced := fun (i : CtxId) =>
      u.setCtx i { (u.ctx i).place ws with progress := (u.ctx i).progress + b.len, parityOk := true }
    (b.abandoned = true ∨ s.pins ≠ some r → exec (.burstCompletion r dev) s = .next s) ∧
    (s.pins = some r → b.abandoned = false → b.inRange = false → exec (.burstCompletion r dev) s = .fault .addressBeyondRegion) ∧
    (∀ a, s.pins = some r → b.abandoned = false → b.inRange = true → s.memoryFault b samples = some a →
      exec (.burstCompletion r dev) s = .next (u.faultAt .memory (.memory r a)).finish) ∧
    (∀ i, s.pins = some r → b.abandoned = false → b.inRange = true → s.memoryFault b samples = none → b.owner = .ctx i →
      (s.ctx i).state = .serving → (s.ctx i).pieces ≠ some [] →
      exec (.burstCompletion r dev) s = .next ((((advanced i).carryOut r).serveAll).takeTurn r).finish) ∧
    (∀ i, s.lastBurst r b i → s.memoryFault b samples = none →
      let v := (advanced i).accessEnd i
      exec (.burstCompletion r dev) s = .next
        (((v.carryOut r).serveAll).takeTurns
          ((if (v.ctx i).state = .waiting then [(v.ctx i).region] else []) ++ [r])).finish) ∧
    (s.pins = some r → b.abandoned = false → b.inRange = true → s.memoryFault b samples = none → b.owner = .patrol →
      exec (.burstCompletion r dev) s = .next
        ((((u.patrolCompletion r (ws.map Prod.snd)).carryOut r).serveAll).takeTurn r).finish)) ∧
  (∀ (r : RegionId) (dev : List BusDeviation) (s : State), (s.region r).burst = none →
    exec (.burstCompletion r dev) s = .next s) ∧
  (∀ g : Region,
    (g.written = none → g.endBurst = { g with burst := none }) ∧
    (∀ w, g.written = some w → g.endBurst = { g with burst := none, patrol := w, written := none })) ∧
  (∀ (b : Burst) (r : RegionId) (dev : List BusDeviation) (m : Memory),
    let l := b.samples r dev m
    (b.write = true → l = []) ∧
    (b.write = false → l.length = b.len ∧
      ∀ k, k < b.len →
        let a := if b.wrap then b.addr - b.addr % b.len + (b.addr % b.len + k) % b.len else b.addr + k
        (∀ d, dev.find? (fun d => d.index == k) = some d → l[k]? = some (a, d.seen, d.parityOk)) ∧
        ((∀ d ∈ dev, d.index ≠ k) → l[k]? = some (a, m.readWord r a, m.wordParityOk r a)))) ∧
  (∀ (m : Memory) (r : RegionId) (a : Nat),
    (m.wordParityOk r a = true ↔ ∀ l, l < 4 → m.parityAt (byteAddr r a l) = true) ∧
    ∀ l, l < 4 → lane (m.readWord r a) l = m.byte (byteAddr r a l)) ∧
  (∀ (c : Context) (b : Burst) (r : RegionId) (m : Memory) (k : Nat), c.kind ≠ .append → c.wrap = none → b.write = false →
    b.wrap = false → c.addr ≤ b.addr → b.addr - c.addr + b.len ≤ c.result.length →
    let t := c.place ((b.samples r [] m).map fun w => (w.1, w.2.1))
    (k < b.len → t.result.getD (b.addr + k - c.addr) 0 = m.readWord r (b.addr + k)) ∧
    (k < b.addr - c.addr ∨ b.addr - c.addr + b.len ≤ k → t.result.getD k 0 = c.result.getD k 0))

/-- The end of an access of READ, WRITE, COMPARE_SWAP and JOURNAL_RESTART (R29, R30, R34, R120), and the words that they
write. -/
def Obligations.AccessEndOfDataRequests : Prop :=
  ∀ (s : State) (i : CtxId),
    let c := s.ctx i
    let old := c.result.getD 0 0
    c.stage = .main →
    (c.kind = .read → s.accessEnd i = s.endCtx i .ok (c.result.take c.length)) ∧
    (c.kind = .write → s.accessEnd i = s.endCtx i .ok [] ∧ ∀ a, c.datum a = (c.payload.getD (a - c.addr) 0, 15#4)) ∧
    (c.kind = .compareSwap →
      (c.progress = 1 → old ≠ c.payload.getD 0 0 → s.accessEnd i = s.endCtx i .compareFailed [old]) ∧
      (c.progress = 1 → old = c.payload.getD 0 0 → s.accessEnd i = s.setCtx i { c with pieces := none }) ∧
      (c.progress = 2 → s.accessEnd i = s.endCtx i .ok [old]) ∧
      (c.progress = 0 → c.access = { addr := c.addr, len := 1, write := false }) ∧
      (c.progress = 1 → c.access = { addr := c.addr, len := 1, write := true } ∧
        ∀ a, c.datum a = (c.payload.getD 1 0, 15#4))) ∧
    (c.kind = .journalRestart →
      (c.step = .freshWrite →
        c.access = { addr := c.addr + c.opOffset, len := 1, write := true } ∧ (∀ a, c.datum a = (word (3 * 65536), 15#4)) ∧
        s.accessEnd i = s.setCtx i { c with step := .anchorWrite, pieces := none }) ∧
      (c.step = .anchorWrite →
        c.access = { addr := c.addr, len := 1, write := true } ∧ (∀ a, c.datum a = (word c.opOffset, 15#4)) ∧
        s.accessEnd i = s.endCtx i .ok []))

/-- The append sequence (R113 to R117, Tables 8-2 and 8-3): the access of each step and the words it writes, and what its
completion comes to, from the words read and the working values kept in the result buffer. Log entry 16, the model's choice:
the working value size is replaced as SIZE_READ completes and not as ANCHOR_WRITE does, and the words that an append reads are
kept apart from its result buffer. -/
def Obligations.AppendSteps : Prop :=
  (∀ (w : Working) (l : List Word), w.c < 2 ^ 32 → w.fill < 2 ^ 32 → w.s < 2 ^ 32 → w.size < 2 ^ 32 → w.next < 2 ^ 32 →
    Working.ofResult (w.toResult l) = w) ∧
  (∀ (s : State) (i : CtxId), (s.ctx i).stage = .main → (s.ctx i).kind = .append →
    (∀ c, (s.ctx i).appendStep = .plan c → s.accessEnd i = s.setCtx i c) ∧
    (∀ st ws, (s.ctx i).appendStep = .ends st ws → s.accessEnd i = s.endCtx i st ws)) ∧
  ∀ c : Context,
    let w := Working.ofResult c.result
    let n := c.payload.length
    let limit := c.last - c.first
    let x := fun k => (c.scratch.getD k 0).toNat
    let goOn := fun (step : AppendStep) (v : Working) =>
      Verdict.plan { c with step := step, result := v.toResult c.result, pieces := none }
    let fits := fun (v : Working) => v.fill + 1 + n ≤ v.size
    let header := fun (o : Nat) => 1 ≤ o ∧ o + 3 ≤ limit
    c.stage = .main → c.kind = .append →
    (c.step = .anchorRead →
      c.access = { addr := c.addr, len := 1, write := false } ∧
      (header (x 0 % 2 ^ 24) → c.appendStep = goOn .headerRead { w with c := x 0 % 2 ^ 24 }) ∧
      (¬header (x 0 % 2 ^ 24) → c.appendStep = .ends .journalBroken [])) ∧
    (c.step = .headerRead →
      c.access = { addr := c.addr + w.c, len := 3, write := false } ∧
      let v := { w with fill := x 0 / 65536, s := x 0 % 65536, size := x 1 % 65536, next := x 2 % 2 ^ 24 }
      let sound := 4 ≤ v.size ∧ w.c + v.size ≤ limit ∧ 3 ≤ v.fill ∧ v.fill ≤ v.size
      (¬sound → c.appendStep = .ends .journalBroken []) ∧
      (sound → fits v → c.appendStep = goOn .recordWrite v) ∧
      (sound → ¬fits v → w.hopped = false → v.next = 0 → c.appendStep = .ends .journalFull []) ∧
      (sound → ¬fits v → w.hopped = false → v.next ≠ 0 → header v.next → c.appendStep = goOn .sizeRead v) ∧
      (sound → ¬fits v → w.hopped = false → v.next ≠ 0 → ¬header v.next → c.appendStep = .ends .journalBroken [])) ∧
    (c.step = .sizeRead →
      c.access = { addr := c.addr + (w.next + 1), len := 1, write := false } ∧
      (4 ≤ x 0 % 65536 ∧ w.next + x 0 % 65536 ≤ limit → c.appendStep = goOn .freshWrite { w with size := x 0 % 65536 }) ∧
      (¬(4 ≤ x 0 % 65536 ∧ w.next + x 0 % 65536 ≤ limit) → c.appendStep = .ends .journalBroken [])) ∧
    (c.step = .freshWrite →
      c.access = { addr := c.addr + w.next, len := 1, write := true } ∧
      (∀ a, c.datum a = (word (w.s % 65536 + 3 * 65536), 15#4)) ∧ c.appendStep = goOn .anchorWrite w) ∧
    (c.step = .anchorWrite →
      c.access = { addr := c.addr, len := 1, write := true } ∧ (∀ a, c.datum a = (word w.next, 15#4)) ∧
      let v := { w with c := w.next, fill := 3, hopped := true }
      (fits v → c.appendStep = goOn .recordWrite v) ∧ (¬fits v → c.appendStep = .ends .recordTooLarge [])) ∧
    (c.step = .recordWrite →
      c.access = { addr := c.addr + (w.c + w.fill), len := 1 + n, write := true } ∧
      c.datum (c.addr + (w.c + w.fill)) = (word (w.s % 65536 + n * 65536 + c.source.val * 16777216), 15#4) ∧
      (∀ k, c.datum (c.addr + (w.c + w.fill) + 1 + k) = (c.payload.getD k 0, 15#4)) ∧
      c.appendStep = goOn .commit w) ∧
    (c.step = .commit →
      c.access = { addr := c.addr + w.c, len := 1, write := true } ∧
      (∀ a, c.datum a = (word ((w.s + 1) % 65536 + (w.fill + 1 + n) * 65536), 15#4)) ∧
      c.appendStep = .ends .ok [word w.s, word (w.c + w.fill)])

/-- The completion of a cursor step (R129, R130): the position advances from the one the step was accepted with, the count
falls by one, the marker is cleared, and the response carries the item, the position and the count; and the lanes and bytes
that a CURSOR_WRITE puts on the bus for an item of each size. -/
def Obligations.CursorStepCompletes : Prop :=
  (∀ (s : State) (i : CtxId),
    let c := s.ctx i
    let cu := s.cursor c.source c.cursor
    let t := { cu with pos := c.curPos + c.curSize, count := cu.count - 1, inFlight := false }
    let w := fun k => c.result.getD k 0
    let shift := 8 * (c.curRounded % 4)
    c.stage = .main →
    (c.kind = .cursorWrite →
      s.accessEnd i = (s.setCursor c.source c.cursor t).endCtx i .ok [word t.pos, word t.count]) ∧
    (c.kind = .cursorRead →
      (c.curSize = 8 →
        s.accessEnd i = (s.setCursor c.source c.cursor t).endCtx i .ok [w 0, w 1, word t.pos, word t.count]) ∧
      (c.curSize = 4 →
        s.accessEnd i = (s.setCursor c.source c.cursor t).endCtx i .ok [w 0, 0, word t.pos, word t.count]) ∧
      (c.curSize = 2 →
        s.accessEnd i = (s.setCursor c.source c.cursor t).endCtx i .ok
          [word ((w 0).toNat / 2 ^ shift % 65536), 0, word t.pos, word t.count]) ∧
      (c.curSize = 1 →
        s.accessEnd i = (s.setCursor c.source c.cursor t).endCtx i .ok
          [word ((w 0).toNat / 2 ^ shift % 256), 0, word t.pos, word t.count]))) ∧
  ∀ (c : Context) (k : Nat),
    let d := c.datum (c.addr + k)
    let at0 := c.curRounded % 4
    let item := c.payload.getD 0 0
    c.kind = .cursorWrite →
    (c.curSize = 8 ∨ c.curSize = 4 → d = (c.payload.getD k 0, 15#4)) ∧
    (c.curSize = 2 → k = 0 → at0 % 2 = 0 →
      (∀ l, l < 4 → (d.2.getLsbD l = true ↔ l = at0 ∨ l = at0 + 1)) ∧ lane d.1 at0 = lane item 0 ∧
      lane d.1 (at0 + 1) = lane item 1) ∧
    (c.curSize = 1 → k = 0 → (∀ l, l < 4 → (d.2.getLsbD l = true ↔ l = at0)) ∧ lane d.1 at0 = lane item 0)

/-- Link completion (R45 to R48, Tables 3-3 and 12-10): the seven checks in their order, each ending the context with its
status, and the move to stage MAIN at the tail of the target region's queue under the weaker of the two rings, with the
context's address, word range, length and wrap items resolved on the target (R17, R26, R73, R74) and all else kept. Log
entry 24, the model's choice: a faulted link word ends the context with no TABLE check point of a target. -/
def Obligations.LinkCompletion : Prop :=
  ∀ (s : State) (i : CtxId),
    let c := s.ctx i
    let w0 := (c.result.getD 0 0).toNat
    let target : SegNo := Fin.ofNat 512 (w0 % 512)
    let d := s.segment target
    let t := (c.result.getD 1 0).toNat % 2 ^ 24 + c.opOffset
    let ring : Ring := if c.ring.val ≤ w0 / 4096 % 4 then Fin.ofNat 4 (w0 / 4096 % 4) else c.ring
    let state := (s.region d.region).state
    c.stage = .link → c.kind = .read ∨ c.kind = .write ∨ c.kind = .compareSwap →
    (2147483648 ≤ w0 → s.accessEnd i = s.endCtx i .pointerFault [word (w0 % 65536)]) ∧
    (w0 < 2147483648 → s.segmentFaults target = true → s.accessEnd i = s.faultAt .table (.segment target)) ∧
    (w0 < 2147483648 → s.segmentFaults target = false →
      (d.kind = .absent → s.accessEnd i = s.endCtx i .noSegment []) ∧
      (d.kind = .indirect → s.accessEnd i = s.endCtx i .indirectLoop []) ∧
      (d.kind = .journal → s.accessEnd i = s.endCtx i .kindMismatch []) ∧
      (∀ st, d.kind = .direct → translateRequest d c.kind ring t c.opLength = some st → s.accessEnd i = s.endCtx i st []) ∧
      (d.kind = .direct → translateRequest d c.kind ring t c.opLength = none → state = .offline ∨ state = .training →
        s.accessEnd i = s.endCtx i .regionOffline []) ∧
      (d.kind = .direct → translateRequest d c.kind ring t c.opLength = none → state ≠ .offline → state ≠ .training →
        s.accessEnd i = (((s.leaveQueue c.region i).setCtx i ({ c with ring := ring }.resolve d t c.opLength)).enterQueue
          d.region i))) ∧
    (∀ e : Context, ∀ n,
      let m := e.resolve d t n
      m.stage = .main ∧ m.state = .waiting ∧ m.region = d.region ∧ m.addr = d.base + t ∧ m.progress = 0 ∧
      m.result = List.replicate 64 0 ∧ m.payload = e.payload ∧ m.ring = e.ring ∧ m.kind = e.kind ∧ m.pieces = none ∧
      m = { e with
            stage := .main, state := .waiting, region := d.region, addr := d.base + t, first := m.first, last := m.last,
            length := m.length, progress := 0, result := m.result, wrap := m.wrap, pieces := none, scratch := [],
            parityOk := true } ∧
      (e.kind = .read → ¬(n = d.block ∧ 1 < d.block) →
        m.first = d.base + t ∧ m.last = d.base + t + n ∧ m.length = n ∧ m.wrap = none) ∧
      (e.kind = .read → n = d.block → 1 < d.block →
        m.first = d.base + t - (d.base + t) % n ∧ m.last = d.base + t - (d.base + t) % n + n ∧ m.length = n ∧
        m.wrap = some { order := d.order, block := n, base := d.base + t - (d.base + t) % n, start := (d.base + t) % n }) ∧
      (e.kind = .write → m.first = d.base + t ∧ m.last = d.base + t + n ∧ m.length = n ∧ m.wrap = none) ∧
      (e.kind = .compareSwap → m.first = d.base + t ∧ m.last = d.base + t + 1 ∧ m.length = 2 ∧ m.wrap = none))

/-- The check points of the Integrity Unit (R134, R135, R137) and the patrol comparison (R139): what is examined, what a
pending injection does, which word of a read burst is the one reported, and how the four patrol words are judged. A fault
that a check point reports clears the injection flag of its check, where that is set, and is then taken. Log entry 8, the
model's choice: an EGRESS check point finds a fault on a pending injection alone, as a frame being assembled has no stored
parity. -/
def Obligations.CheckPointsAndPatrol : Prop :=
  (∀ (s : State) (f : FaultItem),
    s.faultAt .table f = { s with inject := { s.inject with table := false } }.takeFault f ∧
    s.faultAt .context f = { s with inject := { s.inject with context := false } }.takeFault f ∧
    s.faultAt .memory f = { s with inject := { s.inject with memory := false } }.takeFault f ∧
    s.faultAt .egress f = { s with inject := { s.inject with egress := false } }.takeFault f) ∧
  (∀ (s : State) (j : SourceId), s.sourceFaults j = true ↔
    s.checks = true ∧ j ∉ s.poisonedSources ∧ (s.inject.table = true ∨ s.sources[j].parityOk = false)) ∧
  (∀ (s : State) (j : SegNo), s.segmentFaults j = true ↔
    s.checks = true ∧ j ∉ s.poisonedSegments ∧ (s.inject.table = true ∨ s.segments[j].parityOk = false)) ∧
  (∀ (s : State) (i : CtxId), s.contextFaults i = true ↔
    s.checks = true ∧ (s.inject.context = true ∨ (s.ctx i).parityOk = false)) ∧
  (∀ s : State, s.egressFaults = true ↔ s.checks = true ∧ s.inject.egress = true) ∧
  (∀ (s : State) (r : RegionId) (read : Groups),
    let g := s.region r
    let f := s.profileFaults r read
    let c := read.clock = true ∧ g.poison.clock = false
    let t := read.timing = true ∧ g.poison.timing = false
    let p := read.patrol = true ∧ g.poison.patrol = false
    (s.checks = false → f = { clock := false, timing := false, patrol := false }) ∧
    (s.checks = true →
      (f.clock = true ↔ c ∧ (s.inject.table = true ∨ g.clockOk = false)) ∧
      (f.timing = true ↔ t ∧ ((s.inject.table = true ∧ ¬c) ∨ g.timingOk = false)) ∧
      (f.patrol = true ↔ p ∧ ((s.inject.table = true ∧ ¬c ∧ ¬t) ∨ g.patrolOk = false)))) ∧
  (∀ (s : State) (b : Burst) (samples : List (Nat × Word × Bool)),
    (s.checks = false ∨ b.clock.parityLane = false → s.memoryFault b samples = none) ∧
    (s.checks = true → b.clock.parityLane = true → s.inject.memory = true →
      s.memoryFault b samples = samples.head?.map Prod.fst) ∧
    (s.checks = true → b.clock.parityLane = true → s.inject.memory = false →
      s.memoryFault b samples = (samples.find? fun w => w.2.2 == false).map Prod.fst)) ∧
  (∀ (s : State) (r : RegionId) (words : List Word),
    let g := s.region r
    (g.state ≠ .online → s.patrolCompletion r words = s) ∧
    (∀ pr, g.state = .online → g.patrolRead = some pr → pr.rest ≠ [] →
      s.patrolCompletion r words = s.setRegion r { g with patrolRead := some { pr with words := pr.words ++ words } }) ∧
    (∀ pr, g.state = .online → g.patrolRead = some pr → pr.rest = [] →
      s.patrolCompletion r words =
        (s.setRegion r { g with due := false, patrolRead := none }).comparePatrol r
          { pr with words := pr.words ++ words })) ∧
  ∀ (s : State) (r : RegionId) (pr : PatrolRead),
    let differs := fun k => pr.words.getD k 0 ≠ pr.pattern.toList.getD k 0
    ((∀ k, k < 4 → ¬differs k) → s.comparePatrol r pr = s) ∧
    (∀ k, k < 4 → differs k → (∀ j, j < k → ¬differs j) →
      (s.checks = true → s.comparePatrol r pr = s.takeFault (.patrol r (pr.addr + k))) ∧
      (s.checks = false → s.comparePatrol r pr = s.raise (.patrolMismatch r)))

/-- READY_TIMEOUT and ABANDONED_BURST_END (R66, R68, R69), on a burst that holds the shared pins (R71), under ready monitoring
and with a word still to move: the words before it are moved and it holds its old or its new value, whichever the free value
says (log entry 4); the pins fall free. A context's burst ends it DEVICE_TIMEOUT, the region enters OFFLINE and REGION_LOST is
set; a burst abandoned earlier only leaves the bus, and the pending action of QUIESCING is carried out. The model's choices:
any other burst has no such event (log entry 1), the delivery lists are served before the turn (log entry 9), and an applied
timing group has its fresh parity from then (log entry 26). -/
def Obligations.ReadyTimeoutAndAbandonedEnd : Prop :=
  ∀ (r : RegionId) (b : Burst) (s : State), (s.region r).burst = some b → b.inRange = true →
    let off := { s.setRegion r (s.region r).endBurst with pins := none }
    let state := (s.region r).state
    (∀ moved, s.pins = some r → b.timing.monitor = true → moved < b.len → b.abandoned = false → state = .online ∨ state = .quiescing →
      ∃ (new : Bool) (n : Nat),
        let u := { off with mem := b.land r (fun k => decide (k < moved) || (k == moved && new)) s.mem, freeCount := n }
        (∀ i, b.owner = .ctx i →
          exec (.readyTimeout r moved) s =
            .next (((u.endCtx i .deviceTimeout []).enterOffline r).raise (.regionLost r)).finish) ∧
        (b.owner = .patrol →
          exec (.readyTimeout r moved) s = .next ((u.enterOffline r).raise (.regionLost r)).finish)) ∧
    (∀ moved, s.pins = some r → b.timing.monitor = true → moved < b.len → b.abandoned = true →
      let u := { off with mem := b.land r (fun k => decide (k < moved)) s.mem }
      exec (.readyTimeout r moved) s = .next (((u.carryOut r).serveAll).takeTurn r).finish ∧
      exec (.abandonedBurstEnd r (some moved)) s = .next (((u.carryOut r).serveAll).takeTurn r).finish) ∧
    (s.pins = some r → b.abandoned = true →
      let u := { off with mem := b.land r (fun _ => true) s.mem }
      exec (.abandonedBurstEnd r none) s = .next (((u.carryOut r).serveAll).takeTurn r).finish) ∧
    (b.abandoned = false ∨ s.pins ≠ some r → ∀ n, exec (.abandonedBurstEnd r n) s = .next s) ∧
    (∀ moved, b.timing.monitor = false ∨ b.len ≤ moved ∨ s.pins ≠ some r → exec (.readyTimeout r moved) s = .next s) ∧
    (s.carryOut r = s) ∧
    ((off.region r).state = .quiescing →
      (∀ tm, (off.region r).action = some .apply → (off.region r).pendingTiming = some tm →
        off.carryOut r = (off.setRegion r
          { off.region r with
            due := false, patrolRead := none, timing := tm, timingOk := true, state := .settling, settle := some 2,
            openPage := none, action := none, pendingTiming := none }).raise (.profileApplied r)) ∧
      ((off.region r).action = some .park →
        off.carryOut r = off.setRegion r
          { off.region r with due := false, patrolRead := none, state := .parked, action := none, pendingTiming := none }) ∧
      ((off.region r).action = some .offline → off.carryOut r = off.enterOffline r))

/-- SETTLE_EXPIRY (R93) brings a SETTLING region ONLINE, and PATROL_INTERVAL_EXPIRY (R138) in RUN sets patrol-due on each
ONLINE region with patrol enabled, and turns may be taken; one in CONFIG or CONTAINED marks no region. The model's choices:
an expiry of a timer that is not running is no event (log entry 1), and every flag is set before the turns are taken, in
ascending region number (log entry 32). -/
def Obligations.RegionTimers : Prop :=
  (∀ (r : RegionId) (s : State),
    ((s.region r).state = .settling →
      exec (.settleExpiry r) s =
        .next ((s.setRegion r { s.region r with state := .online, settle := none }).takeTurn r).finish) ∧
    ((s.region r).state ≠ .settling → exec (.settleExpiry r) s = .next s)) ∧
  ∀ s : State,
    (s.patrolInterval = 0 ∨ s.mode ≠ .run → exec .patrolIntervalExpiry s = .next s) ∧
    (s.patrolInterval ≠ 0 → s.mode = .run →
      let marked := fun (r : RegionId) => (s.region r).state = .online ∧ (s.region r).patrol.enable = true
      ∃ (t : State) (l : List RegionId), exec .patrolIntervalExpiry s = .next (t.takeTurns l).finish ∧
        (∀ r, r ∈ l ↔ marked r) ∧ l.Pairwise (· < ·) ∧ t = { s with regions := t.regions } ∧
        (∀ r, marked r → t.region r = { s.region r with due := true }) ∧ (∀ r, ¬marked r → t.region r = s.region r))

/-- STROBE_SAMPLE and STEP_TIMER_EXPIRY (R103, R105 to R107, Table 7-2): a sample is recorded once on a lane of the holder
and is otherwise ignored; the last lane's completes the step, which moves the seek states and ends the training or goes on
to the next step; an expiry while a probe awaits its samples fails the training. Log entry 36, the model's choice: a late
sample of an earlier probe is taken as that of the probe now AWAITING. Log entry 1, the model's choice: with no holder, or
with no probe AWAITING, the step timer is stopped and its expiry is no event. -/
def Obligations.StrobeTraining : Prop :=
  (∀ (k m : Nat) (x : Seek), Seek.next k .zero (some false) = .one ∧ Seek.next k .zero (some true) = .zero ∧
    Seek.next k .one (some false) = .one ∧ Seek.next k .one (some true) = .found k ∧
    Seek.next k (.found m) (some false) = .found m ∧ Seek.next k (.found m) (some true) = .found m ∧
    Seek.next k x none = x) ∧
  (∀ (input : Fin 4) (level : Bool) (s : State),
    (s.holder = none → exec (.strobeSample input level) s = .next s ∧ exec .stepTimerExpiry s = .next s) ∧
    ∀ (r : RegionId) (t : Training), s.holder = some r → (s.region r).training = some t →
      let g := s.region r
      let u := { t with samples := t.samples.set input.val (some level) }
      let seek := List.zipWith (Seek.next t.k) t.seek u.samples
      let failed := (((s.setRegion r
        { g with
          trained := false, delays := List.replicate (if g.clock.wide then 4 else 2) 0,
          training := none }).enterOffline r).raise (.trainFailed r)).releaseInputs
      let takes := t.awaiting = true ∧ t.samples[input.val]? = some none
      let complete := ∀ x ∈ u.samples, x ≠ none
      (¬takes → exec (.strobeSample input level) s = .next s) ∧
      (takes → ¬complete →
        exec (.strobeSample input level) s = .next (s.setRegion r { g with training := some u }).finish) ∧
      (∀ steps : List Nat, takes → complete → seek = steps.map Seek.found →
        exec (.strobeSample input level) s = .next
          ((((s.setRegion r { g with trained := true, delays := steps, training := none }).enterOffline r).raise
            (.trainDone r)).releaseInputs).finish) ∧
      (takes → complete → (∃ x ∈ seek, ∀ m, x ≠ .found m) → t.k = 63 →
        exec (.strobeSample input level) s = .next failed.finish) ∧
      (takes → complete → (∃ x ∈ seek, ∀ m, x ≠ .found m) → t.k ≠ 63 →
        exec (.strobeSample input level) s = .next
          (((s.setRegion r { g with training := some { u with k := t.k + 1, seek := seek, awaiting := false } }).releaseInputs
            ).becomeReady r).finish) ∧
      (t.awaiting = true → exec .stepTimerExpiry s = .next failed.finish) ∧
      (t.awaiting = false → exec .stepTimerExpiry s = .next s)) ∧
  ∀ (s : State) (r : RegionId),
    (s.waiting = [] → s.releaseInputs = { s with holder := none }) ∧
    (∀ q rest, s.waiting = q :: rest → s.releaseInputs = { s with waiting := rest }.takeInputs q) ∧
    (s.holder = none → s.waiting = [] → s.becomeReady r = s.takeInputs r) ∧
    (s.holder ≠ none ∨ s.waiting ≠ [] → s.becomeReady r = { s with waiting := s.waiting ++ [r] }) ∧
    (∀ t, (s.region r).training = some t →
      s.takeInputs r =
        { s.setRegion r
            { s.region r with
              training := some { t with awaiting := true, samples := List.replicate t.seek.length none } } with
          holder := some r })

/-! ## Endings, containment and the end of an event (R28, R33, R35, R36, R140, R141, R151, R157) -/

/-- A context's ending (R28, R35, R58, R131): it leaves its queue, whose turn pointer stays between the same neighbours,
becomes DONE with its status and result, a cursor step's marker is cleared, and it joins its port's delivery list, or is
released at once where the transmitter is disabled; a release frees the record and lowers the count (R36). The head of a
delivery list that has 2 free slots is served, and service goes on while one can be, for at most the 32 contexts that the
lists hold (R151). Log entry 25, the model's choice: the ports are looked at from A to D, so one list is served to its end
before the next. -/
def Obligations.EndingHandsOver : Prop :=
  (∀ (s : State) (i : CtxId) (st : Status) (ws : List Word),
    let c := s.ctx i
    let done := { c with state := .done, status := st, result := ws, pieces := none, parityOk := true }
    let p := s.port c.port
    let t := s.endCtx i st ws
    (p.txOn = true → t.ctx i = done ∧ t.port c.port = { p with delivery := p.delivery ++ [i] } ∧ t.counts = s.counts) ∧
    (p.txOn = false → t.ctx i = .free ∧ t.ports = s.ports ∧ t.count c.source = s.count c.source - 1 ∧
      ∀ j, j ≠ c.source → t.count j = s.count j) ∧
    (∀ j, j ≠ i → t.ctx j = s.ctx j) ∧ (∀ q, q ≠ c.port → t.port q = s.port q) ∧
    (∀ q, q ≠ c.region → t.region q = s.region q) ∧
    (let g := s.region c.region
     t.region c.region =
       { g with
         queue := g.queue.erase i, turn := if i ∈ g.queue ∧ g.queue.idxOf i < g.turn then g.turn - 1 else g.turn }) ∧
    (c.kind = .cursorRead ∨ c.kind = .cursorWrite →
      t.cursor c.source c.cursor = { s.cursor c.source c.cursor with inFlight := false } ∧
      ∀ j k, ¬(j = c.source ∧ k = c.cursor) → t.cursor j k = s.cursor j k) ∧
    (c.kind ≠ .cursorRead → c.kind ≠ .cursorWrite → t.cursors = s.cursors) ∧
    t = { s with ctxs := t.ctxs, ports := t.ports, counts := t.counts, regions := t.regions, cursors := t.cursors }) ∧
  (∀ (s : State) (i : CtxId),
    s.release i =
      { s with
        counts := s.counts.set (s.ctx i).source.val (s.count (s.ctx i).source - 1) (s.ctx i).source.isLt,
        ctxs := s.ctxs.set i.val .free i.isLt }) ∧
  (∀ x : PortState, x.serviceable = true ↔ x.txOn = true ∧ x.delivery ≠ [] ∧ x.egress.length + 2 ≤ 16) ∧
  (∀ (s : State) (p : Port) (i : CtxId) (rest : List CtxId), (s.port p).delivery = i :: rest →
    let c := s.ctx i
    let off := s.setPort p { s.port p with delivery := rest }
    (s.contextFaults i = true → s.serveHead p = (off.release i).faultAt .context (.context i)) ∧
    (s.contextFaults i = false → s.egressFaults = true →
      s.serveHead p = (off.release i).faultAt .egress (.egress p (some i))) ∧
    (s.contextFaults i = false → s.egressFaults = false →
      s.serveHead p =
        ((off.setPort p
          { off.port p with
            egress := (off.port p).egress ++
              [responseFrame c.kind.code { src := c.source, tag := c.tag } c.status c.result] }).trySend p).release i)) ∧
  (∀ s : State,
    (∀ p, s.serviceablePort = some p ↔
      (s.port p).serviceable = true ∧ ∀ q, portIndex q < portIndex p → (s.port q).serviceable = false) ∧
    (s.serviceablePort = none ↔ ∀ p, (s.port p).serviceable = false) ∧
    s.serveAll = State.serveFuel 32 s ∧ State.serveFuel 0 s = s ∧
    ∀ n,
      (∀ p, s.serviceablePort = some p → State.serveFuel (n + 1) s = State.serveFuel n (s.serveHead p)) ∧
      (s.serviceablePort = none → State.serveFuel (n + 1) s = s)) ∧
  ∀ s : State, s.checks = false → ∀ p, (s.serveAll.port p).serviceable = false ∨ 32 < (s.ports.a.delivery ++
    s.ports.b.delivery ++ s.ports.c.delivery ++ s.ports.d.delivery).length

/-- Entry into containment and a further fault (R140 to R142, R100): the record, the mode, FAIL and the CONTAINED flag are
set, every region is HALTED with its prior state and its burst abandoned, its training abandoned untrained with its lane
delays 0, and its written patrol group entered, with the parity it has, as the burst is abandoned (R88); every unfinished
context ends CONTAINED in ascending index, its cursor's in-flight marker cleared, and a TABLE fault's entry joins the
poisoned set. A further fault changes the flag and that set alone. -/
def Obligations.ContainmentEntry : Prop :=
  (∀ (f : FaultItem) (s : State), s.mode ≠ .contained →
    let t := s.takeFault f
    let ends := fun (i : CtxId) => (s.ctx i).state = .waiting ∨ (s.ctx i).state = .serving
    let on := fun (i : CtxId) => (s.port (s.ctx i).port).txOn
    let steps := fun (i : CtxId) (j : SourceId) (k : Fin 2) =>
      ends i ∧ ((s.ctx i).kind = .cursorRead ∨ (s.ctx i).kind = .cursorWrite) ∧ (s.ctx i).source = j ∧
        (s.ctx i).cursor = k
    t = { s with
          record := some { item := f, prior := s.mode }, mode := .contained, failPin := true, holder := none,
          waiting := [], alerts := s.alerts ||| 1#64, raised := t.raised, regions := t.regions, ctxs := t.ctxs,
          counts := t.counts, cursors := t.cursors, ports := t.ports, poisonedSources := t.poisonedSources,
          poisonedSegments := t.poisonedSegments } ∧
    (∀ r,
      let g := s.region r
      t.region r =
        { g with
          state := .halted, prior := some g.state, priorAction := g.action, action := none, pendingTiming := none,
          settle := none, due := false, patrolRead := none, training := none,
          burst := g.burst.map fun b => { b with abandoned := true },
          patrol := g.written.getD g.patrol, written := none,
          trained := if g.state = .training then false else g.trained,
          delays := if g.state = .training then (if g.clock.wide then [0, 0, 0, 0] else [0, 0]) else g.delays,
          queue := (t.region r).queue, turn := (t.region r).turn, poison := (t.region r).poison }) ∧
    (∀ r, (∀ i ∈ (s.region r).queue, ends i ∧ (s.ctx i).region = r) → (s.region r).queue.Nodup →
      (s.region r).turn ≤ (s.region r).queue.length → (t.region r).queue = [] ∧ (t.region r).turn = 0) ∧
    (∀ i, ends i → on i = true →
      t.ctx i = { s.ctx i with state := .done, status := .contained, result := [], pieces := none, parityOk := true }) ∧
    (∀ i, ends i → on i = false → t.ctx i = .free) ∧ (∀ i, ¬ends i → t.ctx i = s.ctx i) ∧
    (∀ j, t.count j = s.count j - ((List.finRange 32).filter fun i =>
      ((s.ctx i).state == .waiting || (s.ctx i).state == .serving) && !on i && (s.ctx i).source == j).length) ∧
    (∀ p, t.port p =
      { s.port p with
        delivery := (s.port p).delivery ++
          (if (s.port p).txOn then
            (List.finRange 32).filter fun i =>
              ((s.ctx i).state == .waiting || (s.ctx i).state == .serving) && (s.ctx i).port == p
           else []) }) ∧
    (∀ j k, (∃ i, steps i j k) → t.cursor j k = { s.cursor j k with inFlight := false }) ∧
    (∀ j k, (¬∃ i, steps i j k) → t.cursor j k = s.cursor j k) ∧
    (∀ j, j ∈ t.poisonedSources ↔ j ∈ s.poisonedSources ∨ f = .source j) ∧
    (∀ j, j ∈ t.poisonedSegments ↔ j ∈ s.poisonedSegments ∨ f = .segment j) ∧
    (∀ r g, f = .profile r g → (t.region r).poison =
      { clock := (s.region r).poison.clock || g.clock, timing := (s.region r).poison.timing || g.timing,
        patrol := (s.region r).poison.patrol || g.patrol }) ∧
    (∀ r, (∀ g, f ≠ .profile r g) → (t.region r).poison = (s.region r).poison)) ∧
  ∀ (f : FaultItem) (s : State), s.mode = .contained →
    (∀ j, f = .source j →
      s.takeFault f = { s with poisonedSources := s.poisonedSources.insert j }.raise .furtherFault) ∧
    (∀ j, f = .segment j →
      s.takeFault f = { s with poisonedSegments := s.poisonedSegments.insert j }.raise .furtherFault) ∧
    (∀ r g, f = .profile r g →
      s.takeFault f = (s.setRegion r
        { s.region r with
          poison := { clock := (s.region r).poison.clock || g.clock, timing := (s.region r).poison.timing || g.timing,
                      patrol := (s.region r).poison.patrol || g.patrol } }).raise .furtherFault) ∧
    ((∀ j, f ≠ .source j) → (∀ j, f ≠ .segment j) → (∀ r g, f ≠ .profile r g) →
      s.takeFault f = s.raise .furtherFault)

/-- The end of an event (R71, R151, R157): its rounds, and then the grant of the shared pins. With the checks disabled the
rounds change nothing but the egress sides of the ports and the contexts of delivery lists, which are released. A round is
made exactly where a flag of an enabled kind has changed from clear to set: it reads the Source Table in ascending ID and
offers an alert frame, with the flags as they stand when it is assembled (R162), to each valid ALERT_TARGET source whose
port has room. A fault found in a round sets CONTAINED or FURTHER_FAULT alone; where that sets a flag of an enabled kind
from clear, a further round is made, and after at most three rounds none is due. Pins that a burst holds stay with it; pins
that none holds go to a burst on a bus. The model's choices: which of several bursts is given the pins is a free value (log
entry 30), and contexts that a fault ends inside a round are served from their lists at once, inside it, an EGRESS fault
causing a further round as a TABLE fault does, while the frames that the round has already offered stay as they are (log
entry 12). -/
def Obligations.EventEnd : Prop :=
  (∀ s : State, s.checks = false →
    let t := s.rounds
    t = { s with ports := t.ports, ctxs := t.ctxs, counts := t.counts, raised := 0 } ∧
    (∀ p, (t.port p).rxOn = (s.port p).rxOn ∧ (t.port p).txOn = (s.port p).txOn ∧
      (t.port p).ingress = (s.port p).ingress ∧ (t.port p).signals = (s.port p).signals) ∧
    (∀ i, t.ctx i = s.ctx i ∨ (t.ctx i = .free ∧ ∃ p, i ∈ (s.port p).delivery))) ∧
  (∀ (s : State) (f : AlertFlag),
    (s.raise f).alert f = true ∧ (∀ e, e ≠ f → (s.raise f).alert e = s.alert e) ∧
    ((s.raise f).raised.getLsbD f.place = true ↔ s.raised.getLsbD f.place = true ∨ s.alert f = false)) ∧
  (∀ s : State,
    (s.serveAll.raised &&& enabledFlags s.serveAll.alertMask = 0 → s.rounds = { s.serveAll with raised := 0 }) ∧
    (s.serveAll.raised &&& enabledFlags s.serveAll.alertMask ≠ 0 → s.serveAll.checks = false →
      s.rounds =
        (List.finRange 64).foldl State.offerTo { s.serveAll with raised := 0 })) ∧
  (let round := fun (v : State) => (List.finRange 64).foldl State.offerTo { v with raised := 0 }
   let due := fun (v : State) => v.raised &&& enabledFlags v.alertMask ≠ 0
   (∀ v : State,
     (round v).alerts = v.alerts ||| (round v).raised ∧ (round v).raised &&& v.alerts = 0 ∧
     (round v).raised &&& ~~~3#64 = 0) ∧
   (∀ s : State,
     let a := s.serveAll
     let b := round a
     let c := round b
     let d := round c
     (due a → ¬due b → s.rounds = { b with raised := 0 }) ∧
     (due a → due b → ¬due c → s.rounds = { c with raised := 0 }) ∧
     (due a → due b → due c → s.rounds = { d with raised := 0 } ∧ ¬due d))) ∧
  (∀ s : State,
    let u := s.rounds
    let t := s.finish
    t = { u with pins := t.pins, freeCount := t.freeCount } ∧
    (∀ r, u.pins = some r → t = u) ∧
    (u.pins = none → (∀ r, (u.region r).burst = none) → t = u) ∧
    (∀ q, u.pins = none → (u.region q).burst.isSome = true → ∃ r, t.pins = some r ∧ (u.region r).burst.isSome = true) ∧
    (∀ r b, t.pins = some r → (t.region r).burst = some b →
      t.deviceClock = if b.clock.sync then some b.clock.divider else none)) ∧
  (∀ mask : BitVec 9, ∀ r : RegionId, ∀ p : Port,
    let on := fun (f : AlertFlag) => (enabledFlags mask).getLsbD f.place
    on .contained = mask.getLsbD 0 ∧ on .furtherFault = mask.getLsbD 1 ∧ on (.patrolMismatch r) = mask.getLsbD 2 ∧
    on (.trainDone r) = mask.getLsbD 3 ∧ on (.trainFailed r) = mask.getLsbD 4 ∧ on (.profileApplied r) = mask.getLsbD 5 ∧
    on (.regionLost r) = mask.getLsbD 6 ∧ on (.frameError p) = mask.getLsbD 7 ∧ on (.overrun p) = mask.getLsbD 8) ∧
  ∀ (s : State) (j : SourceId),
    let p := (s.source j).port
    let target := (s.source j).valid = true ∧ (s.source j).alertTarget = true
    let room := (s.port p).txOn = true ∧ (s.port p).egress.length + 2 ≤ 16
    (s.sourceFaults j = true → s.offerTo j = (s.faultAt .table (.source j)).serveAll) ∧
    (s.sourceFaults j = false → ¬(target ∧ room) → s.offerTo j = s) ∧
    (s.sourceFaults j = false → target → room → s.egressFaults = true →
      s.offerTo j = (s.faultAt .egress (.egress p none)).serveAll) ∧
    (s.sourceFaults j = false → target → room → s.egressFaults = false →
      s.offerTo j =
        (s.setPort p
          { s.port p with
            egress := (s.port p).egress ++
              [[word (4 + 3 * 128 + j.val * 16384), s.alerts.extractLsb' 0 32, s.alerts.extractLsb' 32 32]] }).trySend p)

/-! ## Wrapped reads (R75, R76) -/

/-- The two orders of a wrapped read, whatever the order in which its words arrive: the response carries at position `k` the
word at block position `(j + k) mod O` in ROTATE order, and `j XOR k` in INTERCHANGE order; the converse maps; both begin with
the start word, and are address order where `j` is 0; INTERCHANGE is its own inverse within `O`, and keeps aligned groups. -/
def Obligations.WrappedOrders : Prop :=
  ∀ (w : Wrap), w.block = 4 ∨ w.block = 8 ∨ w.block = 16 → w.start < w.block →
    let j := w.start
    let o := w.block
    (∀ (f : Nat → Word) (c : Context) (ws : List (Nat × Word)), c.kind = .read → c.wrap = some w → c.length = o →
      c.result.length = 64 → ws.Perm ((List.range o).map fun p => (w.base + p, f p)) →
      let response := (c.place ws).result.take c.length
      response.length = o ∧
      (∀ k, k < o → w.order = .rotate → response.getD k 0 = f ((j + k) % o)) ∧
      (∀ k, k < o → w.order = .interchange → response.getD k 0 = f (j ^^^ k)) ∧
      response.getD 0 0 = f j ∧ (j = 0 → response = (List.range o).map f)) ∧
    (∀ p, p < o →
      (w.order = .rotate → w.position (w.base + p) = (p + o - j) % o) ∧
      (w.order = .interchange → w.position (w.base + p) = p ^^^ j)) ∧
    (∀ k, k < o → j ^^^ k < o ∧ j ^^^ (j ^^^ k) = k) ∧
    (∀ m k k', m = 1 ∨ m = 2 ∨ m = 4 ∨ m = 8 → m < o → k < o → k' < o → k / m = k' / m →
      (j ^^^ k) / m = (j ^^^ k') / m)

/-! ## What no other command changes, and the invariants -/

/-- The frame of every command: attached memory changes only where a burst leaves a bus or is cut off; the two tables, the
clock groups, the alert mask, the check and port enables, the patrol interval and the acceptance pointer change only by their
own commands and a device reset; a timing group by its own write and as a burst leaves a bus (R87, R96), and a patrol group by
its own write and as the written group enters (R88). Log entry 23, the model's choice: the commands waiting are kept by every
command, DEVICE_RESET among them. -/
def Obligations.UnchangedByOtherCommands : Prop :=
  ∀ (c : Instr) (s t : State), exec c s = .next t →
    t.pending = s.pending ∧
    (c.touchesMemory = false → t.mem = s.mem) ∧
    (c ≠ .deviceReset →
      ((∀ p h idx f, c ≠ .sourceWrite p h idx f) → t.sources = s.sources) ∧
      ((∀ p h seg d, c ≠ .segmentWrite p h seg d) → t.segments = s.segments) ∧
      ((∀ p h r g, c ≠ .profileWriteClock p h r g) → ∀ r, (t.region r).clock = (s.region r).clock) ∧
      ((∀ p h r g, c ≠ .profileWriteTiming p h r g) → c.touchesMemory = false →
        ∀ r, (t.region r).timing = (s.region r).timing) ∧
      ((∀ p h r g, c ≠ .profileWritePatrol p h r g) →
        ∀ r, (t.region r).patrol = (s.region r).patrol ∨ (s.region r).written = some (t.region r).patrol) ∧
      ((∀ p h v, c ≠ .patrolSet p h v) → t.patrolInterval = s.patrolInterval) ∧
      ((∀ p h m, c ≠ .alertControlEnable p h m) → (∀ p h m, c ≠ .alertControlDisable p h m) →
        t.alertMask = s.alertMask) ∧
      ((∀ p h, c ≠ .checkControlEnable p h) → (∀ p h, c ≠ .checkControlDisable p h) → t.checks = s.checks) ∧
      ((∀ p h rx tx, c ≠ .portControlEnable p h rx tx) → (∀ p h rx tx, c ≠ .portControlDisable p h rx tx) →
        ∀ p, (t.port p).rxOn = (s.port p).rxOn ∧ (t.port p).txOn = (s.port p).txOn) ∧
      (c.acceptPort = none → t.accPtr = s.accPtr ∧
        ((∀ p ws ragged, c ≠ .frameArrival p ws ragged) → ∀ p, (t.port p).ingress = (s.port p).ingress)) ∧
      ((∀ p h, c ≠ .clearContainment p h) → (∀ p h, c ≠ .start p h) → (∀ p h, c ≠ .softReset p h) →
        t.mode = s.mode ∨ t.mode = .contained))

/-- Attached memory keeps its canonical form over every step. -/
def Obligations.MemoryCanonicalKept : Prop :=
  ∀ s t : State, s.mem.wf = true → step s = .next t → t.mem.wf = true

/-- Containment stays what the rules say over every step (R140, R142, R144): FAIL and the record report the mode, the poisoned
set is empty outside it, and in it every region is HALTED with nothing in flight, unfinished or training. -/
def Obligations.ContainmentKept : Prop :=
  ∀ s t : State, ContainmentInv s → step s = .next t → ContainmentInv t

/-- The pool, the queues, the delivery lists, the pins and the cursor markers stay consistent over every step (R25, R27, R35,
R53, R57, R58, R71, R131). -/
def Obligations.PoolKept : Prop :=
  ∀ s t : State, ContainmentInv s → PoolInv s → step s = .next t → PoolInv t

/-- Every word that the part names or will name on the attached memory buses stays in its region over every step (R9, R17,
R46, R113, R114, R120), and a step from such a state never stops: the fault of log entry 20 is not reached. -/
def Obligations.RangesKept : Prop :=
  (∀ s t : State, PoolInv s → RangeInv s → step s = .next t → RangeInv t) ∧
  ∀ s : State, RangeInv s → ∃ t, step s = .next t

/-- The ingress queues hold at most 8 frames and the egress queues at most 16 over every step (R148, R150). -/
def Obligations.QueueBoundsKept : Prop :=
  ∀ s t : State, QueueBounds s → step s = .next t → QueueBounds t

/-- The state right after reset satisfies every invariant. -/
def Obligations.ResetSatisfiesInvariants : Prop :=
  State.reset.mem.wf = true ∧ ContainmentInv State.reset ∧ PoolInv State.reset ∧ RangeInv State.reset ∧
    QueueBounds State.reset ∧ State.reset.pending = []

/-- The frame of every well-formed request is good (R147), and the row that takes it is the request, with every operand at
every value its field admits (Chapter 12). -/
def Obligations.DecodeOfEncode : Prop :=
  ∀ (c : Instr) (q : Request) (ws : List Word), c.wf = true → c.request = some q → frameWords c = some ws →
    goodFrame ws false = true ∧ frameInstr q.port ws = c
end

