-- ==== Sys2Proof/Laws/Memory.lean ====
section
/-!
SUPPORT. Attached memory: reading a byte after writing one, and the canonical form, which every memory operation keeps.
-/

namespace Sys2Proof.Machine

/-! ## Rising lists -/

theorem risesFrom_iff (o : Option Nat) (l : List Nat) :
    risesFrom o l = true ↔ l.Pairwise (· < ·) ∧ ∀ lo, o = some lo → ∀ x ∈ l, lo < x := by
  induction l generalizing o with
  | nil => cases o <;> simp [risesFrom]
  | cons k rest ih =>
    cases o with
    | none => simp [risesFrom, ih, and_comm]
    | some lo =>
      simp only [risesFrom, Bool.and_eq_true, decide_eq_true_eq, ih, Option.some.injEq, forall_eq', List.pairwise_cons,
        List.mem_cons, forall_eq_or_imp]
      constructor
      · rintro ⟨h1, h2, h3⟩
        exact ⟨⟨h3, h2⟩, h1, fun x hx => lt_trans h1 (h3 x hx)⟩
      · rintro ⟨⟨h3, h2⟩, h1, _⟩
        exact ⟨h1, h2, h3⟩

theorem rises_iff (l : List Nat) : risesFrom none l = true ↔ l.Pairwise (· < ·) := by
  simp [risesFrom_iff]

theorem mem_insertAddr (l : List Nat) (a x : Nat) : x ∈ insertAddr l a ↔ x = a ∨ x ∈ l := by
  induction l with
  | nil => simp [insertAddr]
  | cons k rest ih =>
    unfold insertAddr
    split
    · rename_i h; subst h; simp
    · split
      · simp
      · simp [ih]; tauto

theorem rises_insertAddr {l : List Nat} (a : Nat) (h : l.Pairwise (· < ·)) : (insertAddr l a).Pairwise (· < ·) := by
  induction l with
  | nil => simp [insertAddr]
  | cons k rest ih =>
    rw [List.pairwise_cons] at h
    unfold insertAddr
    split
    · exact List.pairwise_cons.2 h
    · split
      · rename_i hk
        refine List.pairwise_cons.2 ⟨?_, List.pairwise_cons.2 h⟩
        intro x hx
        rcases List.mem_cons.1 hx with e | e
        · omega
        · exact lt_trans hk (h.1 x e)
      · rename_i h1 h2
        refine List.pairwise_cons.2 ⟨?_, ih h.2⟩
        intro x hx
        rcases (mem_insertAddr rest a x).1 hx with e | e
        · omega
        · exact h.1 x e

theorem eraseAddr_sublist (l : List Nat) (a : Nat) : (eraseAddr l a).Sublist l := by
  induction l with
  | nil => simp [eraseAddr]
  | cons k rest ih =>
    unfold eraseAddr
    split
    · exact List.sublist_cons_self k rest
    · exact ih.cons_cons k

theorem mem_eraseAddr {l : List Nat} (a x : Nat) (h : l.Pairwise (· < ·)) :
    x ∈ eraseAddr l a ↔ x ≠ a ∧ x ∈ l := by
  induction l with
  | nil => simp [eraseAddr]
  | cons k rest ih =>
    rw [List.pairwise_cons] at h
    unfold eraseAddr
    split
    · rename_i hk
      subst hk
      constructor
      · intro hx
        exact ⟨by have := h.1 x hx; omega, List.mem_cons_of_mem _ hx⟩
      · rintro ⟨h1, h2⟩
        rcases List.mem_cons.1 h2 with e | e
        · exact absurd e h1
        · exact e
    · rename_i hk
      simp only [List.mem_cons, ih h.2]
      constructor
      · rintro (e | e)
        · exact ⟨by omega, Or.inl e⟩
        · exact ⟨e.1, Or.inr e.2⟩
      · rintro ⟨h1, e | e⟩
        · exact Or.inl e
        · exact Or.inr ⟨h1, e⟩

/-! ## Listed bytes -/

theorem keys_insertCell (l : List Host.Cell) (a : Nat) (v : Byte) :
    (insertCell l a v).map Prod.fst = insertAddr (l.map Prod.fst) a := by
  induction l with
  | nil => rfl
  | cons c rest ih =>
    obtain ⟨k, b⟩ := c
    simp only [insertCell, insertAddr, List.map_cons]
    split
    · rename_i h; subst h; rfl
    · split
      · rfl
      · simp [ih]

theorem keys_eraseCell (l : List Host.Cell) (a : Nat) :
    (eraseCell l a).map Prod.fst = eraseAddr (l.map Prod.fst) a := by
  induction l with
  | nil => rfl
  | cons c rest ih =>
    obtain ⟨k, b⟩ := c
    simp only [eraseCell, eraseAddr, List.map_cons]
    split
    · rfl
    · simp [ih]

theorem mem_insertCell {l : List Host.Cell} {a : Nat} {v : Byte} {c : Host.Cell} (h : c ∈ insertCell l a v) :
    c = (a, v) ∨ c ∈ l := by
  induction l with
  | nil => simpa [insertCell] using h
  | cons d rest ih =>
    obtain ⟨k, b⟩ := d
    unfold insertCell at h
    split at h
    · rcases List.mem_cons.1 h with e | e
      · exact Or.inl e
      · exact Or.inr (List.mem_cons_of_mem _ e)
    · split at h
      · rcases List.mem_cons.1 h with e | e
        · exact Or.inl e
        · exact Or.inr e
      · rcases List.mem_cons.1 h with e | e
        · exact Or.inr (e ▸ List.mem_cons_self)
        · rcases ih e with e | e
          · exact Or.inl e
          · exact Or.inr (List.mem_cons_of_mem _ e)

theorem mem_eraseCell {l : List Host.Cell} {a : Nat} {c : Host.Cell} (h : c ∈ eraseCell l a) : c ∈ l := by
  induction l with
  | nil => simp [eraseCell] at h
  | cons d rest ih =>
    obtain ⟨k, b⟩ := d
    unfold eraseCell at h
    split at h
    · exact List.mem_cons_of_mem _ h
    · rcases List.mem_cons.1 h with e | e
      · exact e ▸ List.mem_cons_self
      · exact List.mem_cons_of_mem _ (ih e)

theorem readCells_insertCell (l : List Host.Cell) (a x : Nat) (v : Byte) :
    readCells (insertCell l a v) x = if x = a then v else readCells l x := by
  induction l with
  | nil => simp [insertCell, readCells, eq_comm]
  | cons d rest ih =>
    obtain ⟨k, b⟩ := d
    unfold insertCell
    split
    · rename_i h
      subst h
      simp only [readCells]
      by_cases hx : k = x
      · simp [hx]
      · simp [hx, Ne.symm hx]
    · split
      · simp only [readCells]
        by_cases hx : a = x
        · simp [hx]
        · simp [hx, Ne.symm hx]
      · simp only [readCells, ih]
        by_cases hx : k = x
        · rename_i h1 h2
          have : x ≠ a := by omega
          simp [hx, this]
        · simp [hx]

theorem readCells_of_not_mem {l : List Host.Cell} {x : Nat} (h : x ∉ l.map Prod.fst) :
    readCells l x = Config.unlistedByte := by
  induction l with
  | nil => rfl
  | cons d rest ih =>
    obtain ⟨k, b⟩ := d
    simp only [List.map_cons, List.mem_cons, not_or] at h
    simp [readCells, Ne.symm h.1, ih h.2]

theorem readCells_eraseCell_ne (l : List Host.Cell) {a x : Nat} (h : x ≠ a) :
    readCells (eraseCell l a) x = readCells l x := by
  induction l with
  | nil => rfl
  | cons d rest ih =>
    obtain ⟨k, b⟩ := d
    unfold eraseCell
    split
    · rename_i hk
      have : ¬ k = x := by omega
      simp [readCells, this]
    · simp [readCells, ih]

theorem readCells_eraseCell_same {l : List Host.Cell} (a : Nat) (h : (l.map Prod.fst).Pairwise (· < ·)) :
    readCells (eraseCell l a) a = Config.unlistedByte := by
  apply readCells_of_not_mem
  rw [keys_eraseCell]
  intro hm
  exact ((mem_eraseAddr a a h).1 hm).1 rfl

/-! ## Bytes of memory -/

/-- The canonical form, as its three parts. -/
theorem wf_iff (m : Memory) :
    m.wf = true ↔ (m.cells.map Prod.fst).Pairwise (· < ·) ∧ (∀ c ∈ m.cells, c.2 ≠ Config.unlistedByte) ∧
      m.parity.Pairwise (· < ·) := by
  simp only [Memory.wf, Bool.and_eq_true, rises_iff, List.all_eq_true, bne_iff_ne, ne_eq]
  tauto

theorem wf_setByte {m : Memory} (h : m.wf = true) (a : Nat) (v : Byte) (par : Bool) : (m.setByte a v par).wf = true := by
  rw [wf_iff] at h ⊢
  obtain ⟨h1, h2, h3⟩ := h
  refine ⟨?_, ?_, ?_⟩
  · simp only [Memory.setByte, writeCells]
    split
    · rw [keys_eraseCell]
      exact h1.sublist (eraseAddr_sublist _ a)
    · rw [keys_insertCell]
      exact rises_insertAddr a h1
  · intro c hc
    simp only [Memory.setByte, writeCells] at hc
    split at hc
    · exact h2 c (mem_eraseCell hc)
    · rcases mem_insertCell hc with e | e
      · subst e; assumption
      · exact h2 c e
  · simp only [Memory.setByte]
    split
    · exact rises_insertAddr a h3
    · exact h3.sublist (eraseAddr_sublist _ a)

/-- A written byte reads back. -/
theorem byte_setByte_same {m : Memory} (h : m.wf = true) (a : Nat) (v : Byte) (par : Bool) :
    (m.setByte a v par).byte a = v := by
  simp only [Memory.byte, Memory.setByte, writeCells]
  split
  · rename_i hv
    rw [readCells_eraseCell_same a ((wf_iff m).1 h).1, hv]
  · simp [readCells_insertCell]

/-- Every other byte reads as before. -/
theorem byte_setByte_ne (m : Memory) {a x : Nat} (v : Byte) (par : Bool) (h : x ≠ a) :
    (m.setByte a v par).byte x = m.byte x := by
  simp only [Memory.byte, Memory.setByte, writeCells]
  split
  · exact readCells_eraseCell_ne _ h
  · simp [readCells_insertCell, h]

/-! ## Words and bursts -/

theorem wf_writeLane {m : Memory} (h : m.wf = true) (r : RegionId) (a k : Nat) (d : Word × BitVec 4) (par : Bool) :
    (m.writeLane r a k d par).wf = true := by
  unfold Memory.writeLane
  split
  · exact wf_setByte h _ _ _
  · exact h

theorem wf_writeWord {m : Memory} (h : m.wf = true) (r : RegionId) (a : Nat) (d : Word × BitVec 4) (par : Bool) :
    (m.writeWord r a d par).wf = true :=
  wf_writeLane (wf_writeLane (wf_writeLane (wf_writeLane h r a 0 d par) r a 1 d par) r a 2 d par) r a 3 d par

theorem wf_landFrom (b : Burst) (r : RegionId) (taken : Nat → Bool) (k : Nat) (as : List Nat)
    (ds : List (Word × BitVec 4)) {m : Memory} (h : m.wf = true) : (b.landFrom r taken k as ds m).wf = true := by
  induction as generalizing k ds m with
  | nil => cases ds <;> simpa [Burst.landFrom] using h
  | cons a as ih =>
    cases ds with
    | nil => simpa [Burst.landFrom] using h
    | cons d ds =>
      unfold Burst.landFrom
      apply ih
      split
      · exact wf_writeWord h r a d _
      · exact h

/-- A burst keeps the canonical form. -/
theorem wf_land (b : Burst) (r : RegionId) (taken : Nat → Bool) {m : Memory} (h : m.wf = true) :
    (b.land r taken m).wf = true := by
  unfold Burst.land
  split
  · exact wf_landFrom b r taken 0 b.addrs b.data h
  · exact h

theorem wf_reset : State.reset.mem.wf = true := rfl

theorem byte_writeLane_ne (m : Memory) (r : RegionId) (a k : Nat) (d : Word × BitVec 4) (par : Bool) {x : Nat}
    (h : x ≠ byteAddr r a k) : (m.writeLane r a k d par).byte x = m.byte x := by
  unfold Memory.writeLane
  split
  · exact byte_setByte_ne m _ par h
  · rfl

/-- A word write leaves every byte outside its four lanes as it was. -/
theorem byte_writeWord_ne (m : Memory) (r : RegionId) (a : Nat) (d : Word × BitVec 4) (par : Bool) {x : Nat}
    (h : ∀ k < 4, x ≠ byteAddr r a k) : (m.writeWord r a d par).byte x = m.byte x := by
  unfold Memory.writeWord
  rw [byte_writeLane_ne _ r a 3 d par (h 3 (by omega)), byte_writeLane_ne _ r a 2 d par (h 2 (by omega)),
    byte_writeLane_ne _ r a 1 d par (h 1 (by omega)), byte_writeLane_ne _ r a 0 d par (h 0 (by omega))]

theorem byte_writeLane_same {m : Memory} (hm : m.wf = true) (r : RegionId) (a k : Nat) (d : Word × BitVec 4) (par : Bool)
    (h : d.2.getLsbD k = true) : (m.writeLane r a k d par).byte (byteAddr r a k) = lane d.1 k := by
  simp only [Memory.writeLane, h, if_true]
  exact byte_setByte_same hm _ _ _

/-- The bytes of four lanes make up their word. -/
theorem ofLanes_lanes (w : Word) : ofLanes (lane w 0) (lane w 1) (lane w 2) (lane w 3) = w := by
  apply BitVec.eq_of_getLsbD_eq
  intro i hi
  simp only [ofLanes, lane, BitVec.getLsbD_append, BitVec.getLsbD_extractLsb']
  by_cases h0 : i < 8
  · simp [h0]
  · by_cases h1 : i < 16
    · have : i - 8 < 8 := by omega
      simp [h0, this]
      congr 1; omega
    · by_cases h2 : i < 24
      · have a1 : ¬ i - 8 < 8 := by omega
        have a2 : i - 8 - 8 < 8 := by omega
        simp [h0, a1, a2]
        congr 1; omega
      · have a1 : ¬ i - 8 < 8 := by omega
        have a2 : ¬ i - 8 - 8 < 8 := by omega
        have a3 : i - 8 - 8 - 8 < 8 := by omega
        simp [h0, a1, a2, a3]
        congr 1; omega

/-- A word written with all four byte enables reads back. -/
theorem readWord_writeWord_same {m : Memory} (hm : m.wf = true) (r : RegionId) (a : Nat) (w : Word) (par : Bool) :
    (m.writeWord r a (w, 15#4) par).readWord r a = w := by
  have ne : ∀ j k, j ≠ k → byteAddr r a j ≠ byteAddr r a k := by
    intro j k h; simp only [byteAddr]; omega
  have en : ∀ k < 4, (15#4).getLsbD k = true := by decide
  have l0 := wf_writeLane hm r a 0 (w, 15#4) par
  have l1 := wf_writeLane l0 r a 1 (w, 15#4) par
  have l2 := wf_writeLane l1 r a 2 (w, 15#4) par
  have e3 := byte_writeLane_same l2 r a 3 (w, 15#4) par (en 3 (by decide))
  have e2 := byte_writeLane_same l1 r a 2 (w, 15#4) par (en 2 (by decide))
  have e1 := byte_writeLane_same l0 r a 1 (w, 15#4) par (en 1 (by decide))
  have e0 := byte_writeLane_same hm r a 0 (w, 15#4) par (en 0 (by decide))
  simp only [Memory.readWord, Memory.writeWord]
  rw [e3, byte_writeLane_ne _ r a 3 _ par (ne 2 3 (by omega)), e2, byte_writeLane_ne _ r a 3 _ par (ne 1 3 (by omega)),
    byte_writeLane_ne _ r a 2 _ par (ne 1 2 (by omega)), e1, byte_writeLane_ne _ r a 3 _ par (ne 0 3 (by omega)),
    byte_writeLane_ne _ r a 2 _ par (ne 0 2 (by omega)), byte_writeLane_ne _ r a 1 _ par (ne 0 1 (by omega)), e0]
  exact ofLanes_lanes w

end Sys2Proof.Machine
end

