-- ==== Sys2Proof/Laws/State.lean ====
section
/-!
SUPPORT. What each update of a state leaves as it was, one lemma for each field, and what reading back an updated place
gives.
-/

namespace Sys2Proof.Machine

/-! ## setPort -/

@[simp] theorem setPort_sources (s : State) (p : Port) (v : PortState) : (s.setPort p v).sources = s.sources := rfl
@[simp] theorem setPort_segments (s : State) (p : Port) (v : PortState) : (s.setPort p v).segments = s.segments := rfl
@[simp] theorem setPort_ctxs (s : State) (p : Port) (v : PortState) : (s.setPort p v).ctxs = s.ctxs := rfl
@[simp] theorem setPort_counts (s : State) (p : Port) (v : PortState) : (s.setPort p v).counts = s.counts := rfl
@[simp] theorem setPort_cursors (s : State) (p : Port) (v : PortState) : (s.setPort p v).cursors = s.cursors := rfl
@[simp] theorem setPort_regions (s : State) (p : Port) (v : PortState) : (s.setPort p v).regions = s.regions := rfl
@[simp] theorem setPort_pins (s : State) (p : Port) (v : PortState) : (s.setPort p v).pins = s.pins := rfl
@[simp] theorem setPort_holder (s : State) (p : Port) (v : PortState) : (s.setPort p v).holder = s.holder := rfl
@[simp] theorem setPort_waiting (s : State) (p : Port) (v : PortState) : (s.setPort p v).waiting = s.waiting := rfl
@[simp] theorem setPort_accPtr (s : State) (p : Port) (v : PortState) : (s.setPort p v).accPtr = s.accPtr := rfl
@[simp] theorem setPort_checks (s : State) (p : Port) (v : PortState) : (s.setPort p v).checks = s.checks := rfl
@[simp] theorem setPort_inject (s : State) (p : Port) (v : PortState) : (s.setPort p v).inject = s.inject := rfl
@[simp] theorem setPort_record (s : State) (p : Port) (v : PortState) : (s.setPort p v).record = s.record := rfl
@[simp] theorem setPort_poisonedSources (s : State) (p : Port) (v : PortState) : (s.setPort p v).poisonedSources = s.poisonedSources := rfl
@[simp] theorem setPort_poisonedSegments (s : State) (p : Port) (v : PortState) : (s.setPort p v).poisonedSegments = s.poisonedSegments := rfl
@[simp] theorem setPort_failPin (s : State) (p : Port) (v : PortState) : (s.setPort p v).failPin = s.failPin := rfl
@[simp] theorem setPort_mode (s : State) (p : Port) (v : PortState) : (s.setPort p v).mode = s.mode := rfl
@[simp] theorem setPort_alerts (s : State) (p : Port) (v : PortState) : (s.setPort p v).alerts = s.alerts := rfl
@[simp] theorem setPort_raised (s : State) (p : Port) (v : PortState) : (s.setPort p v).raised = s.raised := rfl
@[simp] theorem setPort_alertMask (s : State) (p : Port) (v : PortState) : (s.setPort p v).alertMask = s.alertMask := rfl
@[simp] theorem setPort_patrolInterval (s : State) (p : Port) (v : PortState) : (s.setPort p v).patrolInterval = s.patrolInterval := rfl
@[simp] theorem setPort_mem (s : State) (p : Port) (v : PortState) : (s.setPort p v).mem = s.mem := rfl
@[simp] theorem setPort_freeCount (s : State) (p : Port) (v : PortState) : (s.setPort p v).freeCount = s.freeCount := rfl
@[simp] theorem setPort_pending (s : State) (p : Port) (v : PortState) : (s.setPort p v).pending = s.pending := rfl

/-! ## setSource -/

@[simp] theorem setSource_segments (s : State) (i : SourceId) (e : SourceEntry) : (s.setSource i e).segments = s.segments := rfl
@[simp] theorem setSource_ctxs (s : State) (i : SourceId) (e : SourceEntry) : (s.setSource i e).ctxs = s.ctxs := rfl
@[simp] theorem setSource_counts (s : State) (i : SourceId) (e : SourceEntry) : (s.setSource i e).counts = s.counts := rfl
@[simp] theorem setSource_cursors (s : State) (i : SourceId) (e : SourceEntry) : (s.setSource i e).cursors = s.cursors := rfl
@[simp] theorem setSource_regions (s : State) (i : SourceId) (e : SourceEntry) : (s.setSource i e).regions = s.regions := rfl
@[simp] theorem setSource_pins (s : State) (i : SourceId) (e : SourceEntry) : (s.setSource i e).pins = s.pins := rfl
@[simp] theorem setSource_holder (s : State) (i : SourceId) (e : SourceEntry) : (s.setSource i e).holder = s.holder := rfl
@[simp] theorem setSource_waiting (s : State) (i : SourceId) (e : SourceEntry) : (s.setSource i e).waiting = s.waiting := rfl
@[simp] theorem setSource_ports (s : State) (i : SourceId) (e : SourceEntry) : (s.setSource i e).ports = s.ports := rfl
@[simp] theorem setSource_accPtr (s : State) (i : SourceId) (e : SourceEntry) : (s.setSource i e).accPtr = s.accPtr := rfl
@[simp] theorem setSource_checks (s : State) (i : SourceId) (e : SourceEntry) : (s.setSource i e).checks = s.checks := rfl
@[simp] theorem setSource_inject (s : State) (i : SourceId) (e : SourceEntry) : (s.setSource i e).inject = s.inject := rfl
@[simp] theorem setSource_record (s : State) (i : SourceId) (e : SourceEntry) : (s.setSource i e).record = s.record := rfl
@[simp] theorem setSource_poisonedSources (s : State) (i : SourceId) (e : SourceEntry) : (s.setSource i e).poisonedSources = s.poisonedSources := rfl
@[simp] theorem setSource_poisonedSegments (s : State) (i : SourceId) (e : SourceEntry) : (s.setSource i e).poisonedSegments = s.poisonedSegments := rfl
@[simp] theorem setSource_failPin (s : State) (i : SourceId) (e : SourceEntry) : (s.setSource i e).failPin = s.failPin := rfl
@[simp] theorem setSource_mode (s : State) (i : SourceId) (e : SourceEntry) : (s.setSource i e).mode = s.mode := rfl
@[simp] theorem setSource_alerts (s : State) (i : SourceId) (e : SourceEntry) : (s.setSource i e).alerts = s.alerts := rfl
@[simp] theorem setSource_raised (s : State) (i : SourceId) (e : SourceEntry) : (s.setSource i e).raised = s.raised := rfl
@[simp] theorem setSource_alertMask (s : State) (i : SourceId) (e : SourceEntry) : (s.setSource i e).alertMask = s.alertMask := rfl
@[simp] theorem setSource_patrolInterval (s : State) (i : SourceId) (e : SourceEntry) : (s.setSource i e).patrolInterval = s.patrolInterval := rfl
@[simp] theorem setSource_mem (s : State) (i : SourceId) (e : SourceEntry) : (s.setSource i e).mem = s.mem := rfl
@[simp] theorem setSource_freeCount (s : State) (i : SourceId) (e : SourceEntry) : (s.setSource i e).freeCount = s.freeCount := rfl
@[simp] theorem setSource_pending (s : State) (i : SourceId) (e : SourceEntry) : (s.setSource i e).pending = s.pending := rfl

/-! ## setSegment -/

@[simp] theorem setSegment_sources (s : State) (i : SegNo) (e : SegmentEntry) : (s.setSegment i e).sources = s.sources := rfl
@[simp] theorem setSegment_ctxs (s : State) (i : SegNo) (e : SegmentEntry) : (s.setSegment i e).ctxs = s.ctxs := rfl
@[simp] theorem setSegment_counts (s : State) (i : SegNo) (e : SegmentEntry) : (s.setSegment i e).counts = s.counts := rfl
@[simp] theorem setSegment_cursors (s : State) (i : SegNo) (e : SegmentEntry) : (s.setSegment i e).cursors = s.cursors := rfl
@[simp] theorem setSegment_regions (s : State) (i : SegNo) (e : SegmentEntry) : (s.setSegment i e).regions = s.regions := rfl
@[simp] theorem setSegment_pins (s : State) (i : SegNo) (e : SegmentEntry) : (s.setSegment i e).pins = s.pins := rfl
@[simp] theorem setSegment_holder (s : State) (i : SegNo) (e : SegmentEntry) : (s.setSegment i e).holder = s.holder := rfl
@[simp] theorem setSegment_waiting (s : State) (i : SegNo) (e : SegmentEntry) : (s.setSegment i e).waiting = s.waiting := rfl
@[simp] theorem setSegment_ports (s : State) (i : SegNo) (e : SegmentEntry) : (s.setSegment i e).ports = s.ports := rfl
@[simp] theorem setSegment_accPtr (s : State) (i : SegNo) (e : SegmentEntry) : (s.setSegment i e).accPtr = s.accPtr := rfl
@[simp] theorem setSegment_checks (s : State) (i : SegNo) (e : SegmentEntry) : (s.setSegment i e).checks = s.checks := rfl
@[simp] theorem setSegment_inject (s : State) (i : SegNo) (e : SegmentEntry) : (s.setSegment i e).inject = s.inject := rfl
@[simp] theorem setSegment_record (s : State) (i : SegNo) (e : SegmentEntry) : (s.setSegment i e).record = s.record := rfl
@[simp] theorem setSegment_poisonedSources (s : State) (i : SegNo) (e : SegmentEntry) : (s.setSegment i e).poisonedSources = s.poisonedSources := rfl
@[simp] theorem setSegment_poisonedSegments (s : State) (i : SegNo) (e : SegmentEntry) : (s.setSegment i e).poisonedSegments = s.poisonedSegments := rfl
@[simp] theorem setSegment_failPin (s : State) (i : SegNo) (e : SegmentEntry) : (s.setSegment i e).failPin = s.failPin := rfl
@[simp] theorem setSegment_mode (s : State) (i : SegNo) (e : SegmentEntry) : (s.setSegment i e).mode = s.mode := rfl
@[simp] theorem setSegment_alerts (s : State) (i : SegNo) (e : SegmentEntry) : (s.setSegment i e).alerts = s.alerts := rfl
@[simp] theorem setSegment_raised (s : State) (i : SegNo) (e : SegmentEntry) : (s.setSegment i e).raised = s.raised := rfl
@[simp] theorem setSegment_alertMask (s : State) (i : SegNo) (e : SegmentEntry) : (s.setSegment i e).alertMask = s.alertMask := rfl
@[simp] theorem setSegment_patrolInterval (s : State) (i : SegNo) (e : SegmentEntry) : (s.setSegment i e).patrolInterval = s.patrolInterval := rfl
@[simp] theorem setSegment_mem (s : State) (i : SegNo) (e : SegmentEntry) : (s.setSegment i e).mem = s.mem := rfl
@[simp] theorem setSegment_freeCount (s : State) (i : SegNo) (e : SegmentEntry) : (s.setSegment i e).freeCount = s.freeCount := rfl
@[simp] theorem setSegment_pending (s : State) (i : SegNo) (e : SegmentEntry) : (s.setSegment i e).pending = s.pending := rfl

/-! ## setCtx -/

@[simp] theorem setCtx_sources (s : State) (i : CtxId) (c : Context) : (s.setCtx i c).sources = s.sources := rfl
@[simp] theorem setCtx_segments (s : State) (i : CtxId) (c : Context) : (s.setCtx i c).segments = s.segments := rfl
@[simp] theorem setCtx_counts (s : State) (i : CtxId) (c : Context) : (s.setCtx i c).counts = s.counts := rfl
@[simp] theorem setCtx_cursors (s : State) (i : CtxId) (c : Context) : (s.setCtx i c).cursors = s.cursors := rfl
@[simp] theorem setCtx_regions (s : State) (i : CtxId) (c : Context) : (s.setCtx i c).regions = s.regions := rfl
@[simp] theorem setCtx_pins (s : State) (i : CtxId) (c : Context) : (s.setCtx i c).pins = s.pins := rfl
@[simp] theorem setCtx_holder (s : State) (i : CtxId) (c : Context) : (s.setCtx i c).holder = s.holder := rfl
@[simp] theorem setCtx_waiting (s : State) (i : CtxId) (c : Context) : (s.setCtx i c).waiting = s.waiting := rfl
@[simp] theorem setCtx_ports (s : State) (i : CtxId) (c : Context) : (s.setCtx i c).ports = s.ports := rfl
@[simp] theorem setCtx_accPtr (s : State) (i : CtxId) (c : Context) : (s.setCtx i c).accPtr = s.accPtr := rfl
@[simp] theorem setCtx_checks (s : State) (i : CtxId) (c : Context) : (s.setCtx i c).checks = s.checks := rfl
@[simp] theorem setCtx_inject (s : State) (i : CtxId) (c : Context) : (s.setCtx i c).inject = s.inject := rfl
@[simp] theorem setCtx_record (s : State) (i : CtxId) (c : Context) : (s.setCtx i c).record = s.record := rfl
@[simp] theorem setCtx_poisonedSources (s : State) (i : CtxId) (c : Context) : (s.setCtx i c).poisonedSources = s.poisonedSources := rfl
@[simp] theorem setCtx_poisonedSegments (s : State) (i : CtxId) (c : Context) : (s.setCtx i c).poisonedSegments = s.poisonedSegments := rfl
@[simp] theorem setCtx_failPin (s : State) (i : CtxId) (c : Context) : (s.setCtx i c).failPin = s.failPin := rfl
@[simp] theorem setCtx_mode (s : State) (i : CtxId) (c : Context) : (s.setCtx i c).mode = s.mode := rfl
@[simp] theorem setCtx_alerts (s : State) (i : CtxId) (c : Context) : (s.setCtx i c).alerts = s.alerts := rfl
@[simp] theorem setCtx_raised (s : State) (i : CtxId) (c : Context) : (s.setCtx i c).raised = s.raised := rfl
@[simp] theorem setCtx_alertMask (s : State) (i : CtxId) (c : Context) : (s.setCtx i c).alertMask = s.alertMask := rfl
@[simp] theorem setCtx_patrolInterval (s : State) (i : CtxId) (c : Context) : (s.setCtx i c).patrolInterval = s.patrolInterval := rfl
@[simp] theorem setCtx_mem (s : State) (i : CtxId) (c : Context) : (s.setCtx i c).mem = s.mem := rfl
@[simp] theorem setCtx_freeCount (s : State) (i : CtxId) (c : Context) : (s.setCtx i c).freeCount = s.freeCount := rfl
@[simp] theorem setCtx_pending (s : State) (i : CtxId) (c : Context) : (s.setCtx i c).pending = s.pending := rfl

/-! ## setCount -/

@[simp] theorem setCount_sources (s : State) (i : SourceId) (n : Nat) : (s.setCount i n).sources = s.sources := rfl
@[simp] theorem setCount_segments (s : State) (i : SourceId) (n : Nat) : (s.setCount i n).segments = s.segments := rfl
@[simp] theorem setCount_ctxs (s : State) (i : SourceId) (n : Nat) : (s.setCount i n).ctxs = s.ctxs := rfl
@[simp] theorem setCount_cursors (s : State) (i : SourceId) (n : Nat) : (s.setCount i n).cursors = s.cursors := rfl
@[simp] theorem setCount_regions (s : State) (i : SourceId) (n : Nat) : (s.setCount i n).regions = s.regions := rfl
@[simp] theorem setCount_pins (s : State) (i : SourceId) (n : Nat) : (s.setCount i n).pins = s.pins := rfl
@[simp] theorem setCount_holder (s : State) (i : SourceId) (n : Nat) : (s.setCount i n).holder = s.holder := rfl
@[simp] theorem setCount_waiting (s : State) (i : SourceId) (n : Nat) : (s.setCount i n).waiting = s.waiting := rfl
@[simp] theorem setCount_ports (s : State) (i : SourceId) (n : Nat) : (s.setCount i n).ports = s.ports := rfl
@[simp] theorem setCount_accPtr (s : State) (i : SourceId) (n : Nat) : (s.setCount i n).accPtr = s.accPtr := rfl
@[simp] theorem setCount_checks (s : State) (i : SourceId) (n : Nat) : (s.setCount i n).checks = s.checks := rfl
@[simp] theorem setCount_inject (s : State) (i : SourceId) (n : Nat) : (s.setCount i n).inject = s.inject := rfl
@[simp] theorem setCount_record (s : State) (i : SourceId) (n : Nat) : (s.setCount i n).record = s.record := rfl
@[simp] theorem setCount_poisonedSources (s : State) (i : SourceId) (n : Nat) : (s.setCount i n).poisonedSources = s.poisonedSources := rfl
@[simp] theorem setCount_poisonedSegments (s : State) (i : SourceId) (n : Nat) : (s.setCount i n).poisonedSegments = s.poisonedSegments := rfl
@[simp] theorem setCount_failPin (s : State) (i : SourceId) (n : Nat) : (s.setCount i n).failPin = s.failPin := rfl
@[simp] theorem setCount_mode (s : State) (i : SourceId) (n : Nat) : (s.setCount i n).mode = s.mode := rfl
@[simp] theorem setCount_alerts (s : State) (i : SourceId) (n : Nat) : (s.setCount i n).alerts = s.alerts := rfl
@[simp] theorem setCount_raised (s : State) (i : SourceId) (n : Nat) : (s.setCount i n).raised = s.raised := rfl
@[simp] theorem setCount_alertMask (s : State) (i : SourceId) (n : Nat) : (s.setCount i n).alertMask = s.alertMask := rfl
@[simp] theorem setCount_patrolInterval (s : State) (i : SourceId) (n : Nat) : (s.setCount i n).patrolInterval = s.patrolInterval := rfl
@[simp] theorem setCount_mem (s : State) (i : SourceId) (n : Nat) : (s.setCount i n).mem = s.mem := rfl
@[simp] theorem setCount_freeCount (s : State) (i : SourceId) (n : Nat) : (s.setCount i n).freeCount = s.freeCount := rfl
@[simp] theorem setCount_pending (s : State) (i : SourceId) (n : Nat) : (s.setCount i n).pending = s.pending := rfl

/-! ## setCursor -/

@[simp] theorem setCursor_sources (s : State) (i : SourceId) (k : Fin 2) (c : Cursor) : (s.setCursor i k c).sources = s.sources := rfl
@[simp] theorem setCursor_segments (s : State) (i : SourceId) (k : Fin 2) (c : Cursor) : (s.setCursor i k c).segments = s.segments := rfl
@[simp] theorem setCursor_ctxs (s : State) (i : SourceId) (k : Fin 2) (c : Cursor) : (s.setCursor i k c).ctxs = s.ctxs := rfl
@[simp] theorem setCursor_counts (s : State) (i : SourceId) (k : Fin 2) (c : Cursor) : (s.setCursor i k c).counts = s.counts := rfl
@[simp] theorem setCursor_regions (s : State) (i : SourceId) (k : Fin 2) (c : Cursor) : (s.setCursor i k c).regions = s.regions := rfl
@[simp] theorem setCursor_pins (s : State) (i : SourceId) (k : Fin 2) (c : Cursor) : (s.setCursor i k c).pins = s.pins := rfl
@[simp] theorem setCursor_holder (s : State) (i : SourceId) (k : Fin 2) (c : Cursor) : (s.setCursor i k c).holder = s.holder := rfl
@[simp] theorem setCursor_waiting (s : State) (i : SourceId) (k : Fin 2) (c : Cursor) : (s.setCursor i k c).waiting = s.waiting := rfl
@[simp] theorem setCursor_ports (s : State) (i : SourceId) (k : Fin 2) (c : Cursor) : (s.setCursor i k c).ports = s.ports := rfl
@[simp] theorem setCursor_accPtr (s : State) (i : SourceId) (k : Fin 2) (c : Cursor) : (s.setCursor i k c).accPtr = s.accPtr := rfl
@[simp] theorem setCursor_checks (s : State) (i : SourceId) (k : Fin 2) (c : Cursor) : (s.setCursor i k c).checks = s.checks := rfl
@[simp] theorem setCursor_inject (s : State) (i : SourceId) (k : Fin 2) (c : Cursor) : (s.setCursor i k c).inject = s.inject := rfl
@[simp] theorem setCursor_record (s : State) (i : SourceId) (k : Fin 2) (c : Cursor) : (s.setCursor i k c).record = s.record := rfl
@[simp] theorem setCursor_poisonedSources (s : State) (i : SourceId) (k : Fin 2) (c : Cursor) : (s.setCursor i k c).poisonedSources = s.poisonedSources := rfl
@[simp] theorem setCursor_poisonedSegments (s : State) (i : SourceId) (k : Fin 2) (c : Cursor) : (s.setCursor i k c).poisonedSegments = s.poisonedSegments := rfl
@[simp] theorem setCursor_failPin (s : State) (i : SourceId) (k : Fin 2) (c : Cursor) : (s.setCursor i k c).failPin = s.failPin := rfl
@[simp] theorem setCursor_mode (s : State) (i : SourceId) (k : Fin 2) (c : Cursor) : (s.setCursor i k c).mode = s.mode := rfl
@[simp] theorem setCursor_alerts (s : State) (i : SourceId) (k : Fin 2) (c : Cursor) : (s.setCursor i k c).alerts = s.alerts := rfl
@[simp] theorem setCursor_raised (s : State) (i : SourceId) (k : Fin 2) (c : Cursor) : (s.setCursor i k c).raised = s.raised := rfl
@[simp] theorem setCursor_alertMask (s : State) (i : SourceId) (k : Fin 2) (c : Cursor) : (s.setCursor i k c).alertMask = s.alertMask := rfl
@[simp] theorem setCursor_patrolInterval (s : State) (i : SourceId) (k : Fin 2) (c : Cursor) : (s.setCursor i k c).patrolInterval = s.patrolInterval := rfl
@[simp] theorem setCursor_mem (s : State) (i : SourceId) (k : Fin 2) (c : Cursor) : (s.setCursor i k c).mem = s.mem := rfl
@[simp] theorem setCursor_freeCount (s : State) (i : SourceId) (k : Fin 2) (c : Cursor) : (s.setCursor i k c).freeCount = s.freeCount := rfl
@[simp] theorem setCursor_pending (s : State) (i : SourceId) (k : Fin 2) (c : Cursor) : (s.setCursor i k c).pending = s.pending := rfl

/-! ## setRegion -/

@[simp] theorem setRegion_sources (s : State) (r : RegionId) (g : Region) : (s.setRegion r g).sources = s.sources := rfl
@[simp] theorem setRegion_segments (s : State) (r : RegionId) (g : Region) : (s.setRegion r g).segments = s.segments := rfl
@[simp] theorem setRegion_ctxs (s : State) (r : RegionId) (g : Region) : (s.setRegion r g).ctxs = s.ctxs := rfl
@[simp] theorem setRegion_counts (s : State) (r : RegionId) (g : Region) : (s.setRegion r g).counts = s.counts := rfl
@[simp] theorem setRegion_cursors (s : State) (r : RegionId) (g : Region) : (s.setRegion r g).cursors = s.cursors := rfl
@[simp] theorem setRegion_pins (s : State) (r : RegionId) (g : Region) : (s.setRegion r g).pins = s.pins := rfl
@[simp] theorem setRegion_holder (s : State) (r : RegionId) (g : Region) : (s.setRegion r g).holder = s.holder := rfl
@[simp] theorem setRegion_waiting (s : State) (r : RegionId) (g : Region) : (s.setRegion r g).waiting = s.waiting := rfl
@[simp] theorem setRegion_ports (s : State) (r : RegionId) (g : Region) : (s.setRegion r g).ports = s.ports := rfl
@[simp] theorem setRegion_accPtr (s : State) (r : RegionId) (g : Region) : (s.setRegion r g).accPtr = s.accPtr := rfl
@[simp] theorem setRegion_checks (s : State) (r : RegionId) (g : Region) : (s.setRegion r g).checks = s.checks := rfl
@[simp] theorem setRegion_inject (s : State) (r : RegionId) (g : Region) : (s.setRegion r g).inject = s.inject := rfl
@[simp] theorem setRegion_record (s : State) (r : RegionId) (g : Region) : (s.setRegion r g).record = s.record := rfl
@[simp] theorem setRegion_poisonedSources (s : State) (r : RegionId) (g : Region) : (s.setRegion r g).poisonedSources = s.poisonedSources := rfl
@[simp] theorem setRegion_poisonedSegments (s : State) (r : RegionId) (g : Region) : (s.setRegion r g).poisonedSegments = s.poisonedSegments := rfl
@[simp] theorem setRegion_failPin (s : State) (r : RegionId) (g : Region) : (s.setRegion r g).failPin = s.failPin := rfl
@[simp] theorem setRegion_mode (s : State) (r : RegionId) (g : Region) : (s.setRegion r g).mode = s.mode := rfl
@[simp] theorem setRegion_alerts (s : State) (r : RegionId) (g : Region) : (s.setRegion r g).alerts = s.alerts := rfl
@[simp] theorem setRegion_raised (s : State) (r : RegionId) (g : Region) : (s.setRegion r g).raised = s.raised := rfl
@[simp] theorem setRegion_alertMask (s : State) (r : RegionId) (g : Region) : (s.setRegion r g).alertMask = s.alertMask := rfl
@[simp] theorem setRegion_patrolInterval (s : State) (r : RegionId) (g : Region) : (s.setRegion r g).patrolInterval = s.patrolInterval := rfl
@[simp] theorem setRegion_mem (s : State) (r : RegionId) (g : Region) : (s.setRegion r g).mem = s.mem := rfl
@[simp] theorem setRegion_freeCount (s : State) (r : RegionId) (g : Region) : (s.setRegion r g).freeCount = s.freeCount := rfl
@[simp] theorem setRegion_pending (s : State) (r : RegionId) (g : Region) : (s.setRegion r g).pending = s.pending := rfl

/-! ## raise -/

@[simp] theorem raise_sources (s : State) (f : AlertFlag) : (s.raise f).sources = s.sources := rfl
@[simp] theorem raise_segments (s : State) (f : AlertFlag) : (s.raise f).segments = s.segments := rfl
@[simp] theorem raise_ctxs (s : State) (f : AlertFlag) : (s.raise f).ctxs = s.ctxs := rfl
@[simp] theorem raise_counts (s : State) (f : AlertFlag) : (s.raise f).counts = s.counts := rfl
@[simp] theorem raise_cursors (s : State) (f : AlertFlag) : (s.raise f).cursors = s.cursors := rfl
@[simp] theorem raise_regions (s : State) (f : AlertFlag) : (s.raise f).regions = s.regions := rfl
@[simp] theorem raise_pins (s : State) (f : AlertFlag) : (s.raise f).pins = s.pins := rfl
@[simp] theorem raise_holder (s : State) (f : AlertFlag) : (s.raise f).holder = s.holder := rfl
@[simp] theorem raise_waiting (s : State) (f : AlertFlag) : (s.raise f).waiting = s.waiting := rfl
@[simp] theorem raise_ports (s : State) (f : AlertFlag) : (s.raise f).ports = s.ports := rfl
@[simp] theorem raise_accPtr (s : State) (f : AlertFlag) : (s.raise f).accPtr = s.accPtr := rfl
@[simp] theorem raise_checks (s : State) (f : AlertFlag) : (s.raise f).checks = s.checks := rfl
@[simp] theorem raise_inject (s : State) (f : AlertFlag) : (s.raise f).inject = s.inject := rfl
@[simp] theorem raise_record (s : State) (f : AlertFlag) : (s.raise f).record = s.record := rfl
@[simp] theorem raise_poisonedSources (s : State) (f : AlertFlag) : (s.raise f).poisonedSources = s.poisonedSources := rfl
@[simp] theorem raise_poisonedSegments (s : State) (f : AlertFlag) : (s.raise f).poisonedSegments = s.poisonedSegments := rfl
@[simp] theorem raise_failPin (s : State) (f : AlertFlag) : (s.raise f).failPin = s.failPin := rfl
@[simp] theorem raise_mode (s : State) (f : AlertFlag) : (s.raise f).mode = s.mode := rfl
@[simp] theorem raise_alertMask (s : State) (f : AlertFlag) : (s.raise f).alertMask = s.alertMask := rfl
@[simp] theorem raise_patrolInterval (s : State) (f : AlertFlag) : (s.raise f).patrolInterval = s.patrolInterval := rfl
@[simp] theorem raise_mem (s : State) (f : AlertFlag) : (s.raise f).mem = s.mem := rfl
@[simp] theorem raise_freeCount (s : State) (f : AlertFlag) : (s.raise f).freeCount = s.freeCount := rfl
@[simp] theorem raise_pending (s : State) (f : AlertFlag) : (s.raise f).pending = s.pending := rfl

/-! ## Readers that an update does not touch -/

@[simp] theorem setPort_source (s : State) (p : Port) (v : PortState) (j : SourceId) : (s.setPort p v).source j = s.source j := rfl
@[simp] theorem setPort_segment (s : State) (p : Port) (v : PortState) (j : SegNo) : (s.setPort p v).segment j = s.segment j := rfl
@[simp] theorem setPort_ctx (s : State) (p : Port) (v : PortState) (j : CtxId) : (s.setPort p v).ctx j = s.ctx j := rfl
@[simp] theorem setPort_count (s : State) (p : Port) (v : PortState) (j : SourceId) : (s.setPort p v).count j = s.count j := rfl
@[simp] theorem setPort_cursor (s : State) (p : Port) (v : PortState) (j : SourceId) (m : Fin 2) : (s.setPort p v).cursor j m = s.cursor j m := rfl
@[simp] theorem setPort_region (s : State) (p : Port) (v : PortState) (x : RegionId) : (s.setPort p v).region x = s.region x := rfl
@[simp] theorem setSource_port (s : State) (i : SourceId) (e : SourceEntry) (q : Port) : (s.setSource i e).port q = s.port q := rfl
@[simp] theorem setSource_segment (s : State) (i : SourceId) (e : SourceEntry) (j : SegNo) : (s.setSource i e).segment j = s.segment j := rfl
@[simp] theorem setSource_ctx (s : State) (i : SourceId) (e : SourceEntry) (j : CtxId) : (s.setSource i e).ctx j = s.ctx j := rfl
@[simp] theorem setSource_count (s : State) (i : SourceId) (e : SourceEntry) (j : SourceId) : (s.setSource i e).count j = s.count j := rfl
@[simp] theorem setSource_cursor (s : State) (i : SourceId) (e : SourceEntry) (j : SourceId) (m : Fin 2) : (s.setSource i e).cursor j m = s.cursor j m := rfl
@[simp] theorem setSource_region (s : State) (i : SourceId) (e : SourceEntry) (x : RegionId) : (s.setSource i e).region x = s.region x := rfl
@[simp] theorem setSegment_port (s : State) (i : SegNo) (e : SegmentEntry) (q : Port) : (s.setSegment i e).port q = s.port q := rfl
@[simp] theorem setSegment_source (s : State) (i : SegNo) (e : SegmentEntry) (j : SourceId) : (s.setSegment i e).source j = s.source j := rfl
@[simp] theorem setSegment_ctx (s : State) (i : SegNo) (e : SegmentEntry) (j : CtxId) : (s.setSegment i e).ctx j = s.ctx j := rfl
@[simp] theorem setSegment_count (s : State) (i : SegNo) (e : SegmentEntry) (j : SourceId) : (s.setSegment i e).count j = s.count j := rfl
@[simp] theorem setSegment_cursor (s : State) (i : SegNo) (e : SegmentEntry) (j : SourceId) (m : Fin 2) : (s.setSegment i e).cursor j m = s.cursor j m := rfl
@[simp] theorem setSegment_region (s : State) (i : SegNo) (e : SegmentEntry) (x : RegionId) : (s.setSegment i e).region x = s.region x := rfl
@[simp] theorem setCtx_port (s : State) (i : CtxId) (c : Context) (q : Port) : (s.setCtx i c).port q = s.port q := rfl
@[simp] theorem setCtx_source (s : State) (i : CtxId) (c : Context) (j : SourceId) : (s.setCtx i c).source j = s.source j := rfl
@[simp] theorem setCtx_segment (s : State) (i : CtxId) (c : Context) (j : SegNo) : (s.setCtx i c).segment j = s.segment j := rfl
@[simp] theorem setCtx_count (s : State) (i : CtxId) (c : Context) (j : SourceId) : (s.setCtx i c).count j = s.count j := rfl
@[simp] theorem setCtx_cursor (s : State) (i : CtxId) (c : Context) (j : SourceId) (m : Fin 2) : (s.setCtx i c).cursor j m = s.cursor j m := rfl
@[simp] theorem setCtx_region (s : State) (i : CtxId) (c : Context) (x : RegionId) : (s.setCtx i c).region x = s.region x := rfl
@[simp] theorem setCount_port (s : State) (i : SourceId) (n : Nat) (q : Port) : (s.setCount i n).port q = s.port q := rfl
@[simp] theorem setCount_source (s : State) (i : SourceId) (n : Nat) (j : SourceId) : (s.setCount i n).source j = s.source j := rfl
@[simp] theorem setCount_segment (s : State) (i : SourceId) (n : Nat) (j : SegNo) : (s.setCount i n).segment j = s.segment j := rfl
@[simp] theorem setCount_ctx (s : State) (i : SourceId) (n : Nat) (j : CtxId) : (s.setCount i n).ctx j = s.ctx j := rfl
@[simp] theorem setCount_cursor (s : State) (i : SourceId) (n : Nat) (j : SourceId) (m : Fin 2) : (s.setCount i n).cursor j m = s.cursor j m := rfl
@[simp] theorem setCount_region (s : State) (i : SourceId) (n : Nat) (x : RegionId) : (s.setCount i n).region x = s.region x := rfl
@[simp] theorem setCursor_port (s : State) (i : SourceId) (k : Fin 2) (c : Cursor) (q : Port) : (s.setCursor i k c).port q = s.port q := rfl
@[simp] theorem setCursor_source (s : State) (i : SourceId) (k : Fin 2) (c : Cursor) (j : SourceId) : (s.setCursor i k c).source j = s.source j := rfl
@[simp] theorem setCursor_segment (s : State) (i : SourceId) (k : Fin 2) (c : Cursor) (j : SegNo) : (s.setCursor i k c).segment j = s.segment j := rfl
@[simp] theorem setCursor_ctx (s : State) (i : SourceId) (k : Fin 2) (c : Cursor) (j : CtxId) : (s.setCursor i k c).ctx j = s.ctx j := rfl
@[simp] theorem setCursor_count (s : State) (i : SourceId) (k : Fin 2) (c : Cursor) (j : SourceId) : (s.setCursor i k c).count j = s.count j := rfl
@[simp] theorem setCursor_region (s : State) (i : SourceId) (k : Fin 2) (c : Cursor) (x : RegionId) : (s.setCursor i k c).region x = s.region x := rfl
@[simp] theorem setRegion_port (s : State) (r : RegionId) (g : Region) (q : Port) : (s.setRegion r g).port q = s.port q := rfl
@[simp] theorem setRegion_source (s : State) (r : RegionId) (g : Region) (j : SourceId) : (s.setRegion r g).source j = s.source j := rfl
@[simp] theorem setRegion_segment (s : State) (r : RegionId) (g : Region) (j : SegNo) : (s.setRegion r g).segment j = s.segment j := rfl
@[simp] theorem setRegion_ctx (s : State) (r : RegionId) (g : Region) (j : CtxId) : (s.setRegion r g).ctx j = s.ctx j := rfl
@[simp] theorem setRegion_count (s : State) (r : RegionId) (g : Region) (j : SourceId) : (s.setRegion r g).count j = s.count j := rfl
@[simp] theorem setRegion_cursor (s : State) (r : RegionId) (g : Region) (j : SourceId) (m : Fin 2) : (s.setRegion r g).cursor j m = s.cursor j m := rfl
@[simp] theorem raise_port (s : State) (f : AlertFlag) (q : Port) : (s.raise f).port q = s.port q := rfl
@[simp] theorem raise_source (s : State) (f : AlertFlag) (j : SourceId) : (s.raise f).source j = s.source j := rfl
@[simp] theorem raise_segment (s : State) (f : AlertFlag) (j : SegNo) : (s.raise f).segment j = s.segment j := rfl
@[simp] theorem raise_ctx (s : State) (f : AlertFlag) (j : CtxId) : (s.raise f).ctx j = s.ctx j := rfl
@[simp] theorem raise_count (s : State) (f : AlertFlag) (j : SourceId) : (s.raise f).count j = s.count j := rfl
@[simp] theorem raise_cursor (s : State) (f : AlertFlag) (j : SourceId) (m : Fin 2) : (s.raise f).cursor j m = s.cursor j m := rfl
@[simp] theorem raise_region (s : State) (f : AlertFlag) (x : RegionId) : (s.raise f).region x = s.region x := rfl

/-! ## Reading back an updated place -/

@[simp] theorem port_setPort (s : State) (p : Port) (v : PortState) : (s.setPort p v).port p = v := by
  cases p <;> rfl

theorem port_setPort_ne (s : State) {p q : Port} (v : PortState) (h : q ≠ p) : (s.setPort p v).port q = s.port q := by
  cases p <;> cases q <;> first | rfl | exact absurd rfl h

@[simp] theorem ctx_setCtx (s : State) (i : CtxId) (c : Context) : (s.setCtx i c).ctx i = c := by
  simp [State.setCtx, State.ctx]

theorem ctx_setCtx_ne (s : State) {i j : CtxId} (c : Context) (h : j ≠ i) : (s.setCtx i c).ctx j = s.ctx j := by
  simp only [State.setCtx, State.ctx, Fin.getElem_fin]
  exact Vector.getElem_set_ne i.isLt j.isLt (fun e => h (Fin.ext e.symm))

@[simp] theorem region_setRegion (s : State) (r : RegionId) (g : Region) : (s.setRegion r g).region r = g := by
  simp [State.setRegion, State.region]

theorem region_setRegion_ne (s : State) {r x : RegionId} (g : Region) (h : x ≠ r) :
    (s.setRegion r g).region x = s.region x := by
  simp only [State.setRegion, State.region, Fin.getElem_fin]
  exact Vector.getElem_set_ne r.isLt x.isLt (fun e => h (Fin.ext e.symm))

@[simp] theorem count_setCount (s : State) (i : SourceId) (n : Nat) : (s.setCount i n).count i = n := by
  simp [State.setCount, State.count]

theorem count_setCount_ne (s : State) {i j : SourceId} (n : Nat) (h : j ≠ i) : (s.setCount i n).count j = s.count j := by
  simp only [State.setCount, State.count, Fin.getElem_fin]
  exact Vector.getElem_set_ne i.isLt j.isLt (fun e => h (Fin.ext e.symm))

@[simp] theorem source_setSource (s : State) (i : SourceId) (e : SourceEntry) : (s.setSource i e).source i = e.fields := by
  simp [State.setSource, State.source]

theorem source_setSource_ne (s : State) {i j : SourceId} (e : SourceEntry) (h : j ≠ i) :
    (s.setSource i e).source j = s.source j := by
  simp only [State.setSource, State.source, Fin.getElem_fin]
  exact congrArg SourceEntry.fields (Vector.getElem_set_ne i.isLt j.isLt (fun x => h (Fin.ext x.symm)))

@[simp] theorem segment_setSegment (s : State) (i : SegNo) (e : SegmentEntry) : (s.setSegment i e).segment i = e.desc := by
  simp [State.setSegment, State.segment]

theorem segment_setSegment_ne (s : State) {i j : SegNo} (e : SegmentEntry) (h : j ≠ i) :
    (s.setSegment i e).segment j = s.segment j := by
  simp only [State.setSegment, State.segment, Fin.getElem_fin]
  exact congrArg SegmentEntry.desc (Vector.getElem_set_ne i.isLt j.isLt (fun x => h (Fin.ext x.symm)))

@[simp] theorem cursor_setCursor (s : State) (i : SourceId) (k : Fin 2) (c : Cursor) :
    (s.setCursor i k c).cursor i k = c := by
  simp [State.setCursor, State.cursor]

theorem cursorIndex_inj {i j : SourceId} {k m : Fin 2} (h : cursorIndex i k = cursorIndex j m) : i = j ∧ k = m := by
  have h' := congrArg Fin.val h
  simp only [cursorIndex] at h'
  constructor <;> apply Fin.ext <;> omega

theorem cursor_setCursor_ne (s : State) {i j : SourceId} {k m : Fin 2} (c : Cursor) (h : ¬(j = i ∧ m = k)) :
    (s.setCursor i k c).cursor j m = s.cursor j m := by
  simp only [State.setCursor, State.cursor, Fin.getElem_fin]
  refine Vector.getElem_set_ne (cursorIndex i k).isLt (cursorIndex j m).isLt (fun e => h ?_)
  have := cursorIndex_inj (Fin.ext e : cursorIndex i k = cursorIndex j m)
  exact ⟨this.1.symm, this.2.symm⟩

end Sys2Proof.Machine
end

