-- ==== Sys2Proof/Laws/Ops.lean ====
section
/-!
SUPPORT. What the shared operations leave alone. `Keeps` names the state that no shared operation but the grant of the pins
writes: the tables, the acceptance pointer, the check enable, the alert mask, the patrol interval, attached memory, the free
value's counter, the queue of commands and the holder of the pins. One lemma for each operation. `FaultFlags` names the
alert flags that an offer round can raise: CONTAINED and FURTHER_FAULT, and no other.
-/

namespace Sys2Proof.Machine

/-- The state that the shared operations never write is the same. -/
structure Keeps (s t : State) : Prop where
  sources : t.sources = s.sources
  segments : t.segments = s.segments
  accPtr : t.accPtr = s.accPtr
  checks : t.checks = s.checks
  alertMask : t.alertMask = s.alertMask
  patrolInterval : t.patrolInterval = s.patrolInterval
  mem : t.mem = s.mem
  freeCount : t.freeCount = s.freeCount
  pending : t.pending = s.pending
  pins : t.pins = s.pins

theorem Keeps.refl (s : State) : Keeps s s := ⟨rfl, rfl, rfl, rfl, rfl, rfl, rfl, rfl, rfl, rfl⟩

theorem Keeps.trans {s t u : State} (a : Keeps s t) (b : Keeps t u) : Keeps s u :=
  ⟨b.1.trans a.1, b.2.trans a.2, b.3.trans a.3, b.4.trans a.4, b.5.trans a.5, b.6.trans a.6, b.7.trans a.7,
    b.8.trans a.8, b.9.trans a.9, b.10.trans a.10⟩

theorem keeps_foldl {α : Type} (f : State → α → State) (h : ∀ s a, Keeps s (f s a)) (l : List α) (s : State) :
    Keeps s (l.foldl f s) := by
  induction l generalizing s with
  | nil => exact Keeps.refl s
  | cons a l ih => exact (h s a).trans (ih (f s a))

/-! ## Updates -/

theorem keeps_setPort (s : State) (p : Port) (v : PortState) : Keeps s (s.setPort p v) :=
  ⟨rfl, rfl, rfl, rfl, rfl, rfl, rfl, rfl, rfl, rfl⟩

theorem keeps_setCtx (s : State) (i : CtxId) (c : Context) : Keeps s (s.setCtx i c) :=
  ⟨rfl, rfl, rfl, rfl, rfl, rfl, rfl, rfl, rfl, rfl⟩

theorem keeps_setCount (s : State) (i : SourceId) (n : Nat) : Keeps s (s.setCount i n) :=
  ⟨rfl, rfl, rfl, rfl, rfl, rfl, rfl, rfl, rfl, rfl⟩

theorem keeps_setCursor (s : State) (i : SourceId) (k : Fin 2) (c : Cursor) : Keeps s (s.setCursor i k c) :=
  ⟨rfl, rfl, rfl, rfl, rfl, rfl, rfl, rfl, rfl, rfl⟩

theorem keeps_setRegion (s : State) (r : RegionId) (g : Region) : Keeps s (s.setRegion r g) :=
  ⟨rfl, rfl, rfl, rfl, rfl, rfl, rfl, rfl, rfl, rfl⟩

theorem keeps_raise (s : State) (f : AlertFlag) : Keeps s (s.raise f) := ⟨rfl, rfl, rfl, rfl, rfl, rfl, rfl, rfl, rfl, rfl⟩

theorem keeps_signal (s : State) (p : Port) (x : Signal) : Keeps s (s.signal p x) := keeps_setPort s p _

theorem keeps_trySend (s : State) (p : Port) : Keeps s (s.trySend p) := keeps_setPort s p _

theorem keeps_join (s : State) (p : Port) (f : List Word) : Keeps s (s.join p f) :=
  (keeps_setPort s p _).trans (keeps_trySend _ p)

theorem keeps_leaveQueue (s : State) (r : RegionId) (i : CtxId) : Keeps s (s.leaveQueue r i) := keeps_setRegion s r _

theorem keeps_enterQueue (s : State) (r : RegionId) (i : CtxId) : Keeps s (s.enterQueue r i) := keeps_setRegion s r _

/-! ## Endings -/

theorem keeps_release (s : State) (i : CtxId) : Keeps s (s.release i) := (keeps_setCount s _ _).trans (keeps_setCtx _ i _)

theorem keeps_clearMarker (s : State) (c : Context) : Keeps s (s.clearMarker c) := by
  unfold State.clearMarker
  split
  · exact keeps_setCursor s _ _ _
  · exact Keeps.refl s

theorem keeps_handOver (s : State) (p : Port) (i : CtxId) : Keeps s (s.handOver p i) := by
  unfold State.handOver
  split
  · exact keeps_setPort s p _
  · exact keeps_release s i

theorem keeps_endCtx (s : State) (i : CtxId) (st : Status) (ws : List Word) : Keeps s (s.endCtx i st ws) :=
  (((keeps_leaveQueue s _ i).trans (keeps_clearMarker _ _)).trans (keeps_setCtx _ i _)).trans (keeps_handOver _ _ i)

theorem keeps_endAll (s : State) (l : List CtxId) (st : Status) : Keeps s (s.endAll l st) :=
  keeps_foldl _ (fun s i => keeps_endCtx s i st []) l s

theorem keeps_enterOffline (s : State) (r : RegionId) : Keeps s (s.enterOffline r) :=
  (keeps_endAll s _ _).trans (keeps_setRegion _ r _)

/-! ## Faults -/

theorem keeps_poisonEntry (s : State) (f : FaultItem) : Keeps s (s.poisonEntry f) := by
  cases f <;> exact ⟨rfl, rfl, rfl, rfl, rfl, rfl, rfl, rfl, rfl, rfl⟩

theorem keeps_contain (s : State) (f : FaultItem) : Keeps s (s.contain f) := by
  have h0 : Keeps s { s with record := some { item := f, prior := s.mode }, mode := .contained, failPin := true } :=
    ⟨rfl, rfl, rfl, rfl, rfl, rfl, rfl, rfl, rfl, rfl⟩
  have h1 := h0.trans (keeps_poisonEntry _ f)
  have h2 : ∀ u : State, Keeps u { u with regions := u.regions.map Region.halt, holder := none, waiting := [] } :=
    fun _ => ⟨rfl, rfl, rfl, rfl, rfl, rfl, rfl, rfl, rfl, rfl⟩
  exact ((h1.trans (h2 _)).trans (keeps_endAll _ _ _)).trans (keeps_raise _ _)

theorem keeps_takeFault (s : State) (f : FaultItem) : Keeps s (s.takeFault f) := by
  unfold State.takeFault
  split
  · exact (keeps_poisonEntry s f).trans (keeps_raise _ _)
  · exact keeps_contain s f

theorem keeps_faultAt (s : State) (k : CheckKind) (f : FaultItem) : Keeps s (s.faultAt k f) := by
  have h : Keeps s { s with inject := s.inject.consume k } := ⟨rfl, rfl, rfl, rfl, rfl, rfl, rfl, rfl, rfl, rfl⟩
  exact h.trans (keeps_takeFault _ f)

/-! ## Delivery, alerts and the end of an event -/

theorem keeps_serveHead (s : State) (p : Port) : Keeps s (s.serveHead p) := by
  unfold State.serveHead
  split
  · exact Keeps.refl s
  · dsimp only
    split
    · exact ((keeps_setPort s p _).trans (keeps_release _ _)).trans (keeps_faultAt _ _ _)
    · split
      · exact ((keeps_setPort s p _).trans (keeps_release _ _)).trans (keeps_faultAt _ _ _)
      · exact ((keeps_setPort s p _).trans (keeps_join _ p _)).trans (keeps_release _ _)

theorem keeps_serveFuel (n : Nat) (s : State) : Keeps s (State.serveFuel n s) := by
  induction n generalizing s with
  | zero => exact Keeps.refl s
  | succ n ih =>
    unfold State.serveFuel
    split
    · exact (keeps_serveHead s _).trans (ih _)
    · exact Keeps.refl s

theorem keeps_serveAll (s : State) : Keeps s s.serveAll := keeps_serveFuel 32 s

theorem keeps_offerAlert (s : State) (i : SourceId) : Keeps s (s.offerAlert i) := by
  unfold State.offerAlert
  dsimp only
  split
  · split
    · exact (keeps_faultAt s _ _).trans (keeps_serveAll _)
    · exact keeps_join s _ _
  · exact Keeps.refl s

theorem keeps_offerTo (s : State) (i : SourceId) : Keeps s (s.offerTo i) := by
  unfold State.offerTo
  split
  · exact (keeps_faultAt s _ _).trans (keeps_serveAll _)
  · split
    · exact keeps_offerAlert s i
    · exact Keeps.refl s

theorem keeps_alertRound (s : State) : Keeps s s.alertRound := by
  have h : Keeps s { s with raised := 0 } := ⟨rfl, rfl, rfl, rfl, rfl, rfl, rfl, rfl, rfl, rfl⟩
  exact h.trans (keeps_foldl _ keeps_offerTo _ _)

theorem keeps_offerFuel (n : Nat) (s : State) : Keeps s (State.offerFuel n s) := by
  induction n generalizing s with
  | zero => exact ⟨rfl, rfl, rfl, rfl, rfl, rfl, rfl, rfl, rfl, rfl⟩
  | succ n ih =>
    unfold State.offerFuel
    split
    · exact (keeps_alertRound s).trans (ih _)
    · exact ⟨rfl, rfl, rfl, rfl, rfl, rfl, rfl, rfl, rfl, rfl⟩

theorem keeps_rounds (s : State) : Keeps s s.rounds := (keeps_serveAll s).trans (keeps_offerFuel 3 _)

/-! ## The pins -/

theorem mem_onBus {s : State} {r : RegionId} : r ∈ s.onBus ↔ (s.region r).burst.isSome = true := by
  simp [State.onBus, List.mem_finRange]

/-- The grant of the pins writes their holder and the free value's counter alone. -/
theorem grantPins_frame (s : State) :
    s.grantPins = { s with pins := s.grantPins.pins, freeCount := s.grantPins.freeCount } := by
  unfold State.grantPins
  split <;> rfl

/-- Pins that a burst holds stay with it. -/
theorem grantPins_held {s : State} {r : RegionId} (h : s.pins = some r) : s.grantPins = s := by
  unfold State.grantPins
  rw [h]

/-- Free pins stay free where no burst is on a bus. -/
theorem grantPins_idle {s : State} (h : s.onBus = []) : s.grantPins = s := by
  unfold State.grantPins
  rw [h]
  cases s.pins <;> rfl

/-- Free pins go to the only burst on a bus. -/
theorem grantPins_only {s : State} {r : RegionId} (h : s.pins = none) (hr : s.onBus = [r]) :
    s.grantPins = { s with pins := some r } := by
  unfold State.grantPins
  rw [h, hr]

/-- Free pins go to one of the bursts on a bus. -/
theorem grantPins_some {s : State} (h : s.pins = none) (hb : s.onBus ≠ []) :
    ∃ r ∈ s.onBus, s.grantPins.pins = some r := by
  unfold State.grantPins
  rw [h]
  match hl : s.onBus, hb with
  | [r], _ => exact ⟨r, by simp, rfl⟩
  | r :: q :: l, _ =>
    refine ⟨_, ?_, rfl⟩
    have hlt : Config.nextPins s.freeCount % (l.length + 2) < (r :: q :: l).length := Nat.mod_lt _ (Nat.succ_pos _)
    rw [List.getD_eq_getElem _ _ hlt]
    exact List.getElem_mem hlt

/-- The end of an event is its rounds and the grant of the pins. -/
theorem finish_frame (s : State) :
    s.finish = { s.rounds with pins := s.finish.pins, freeCount := s.finish.freeCount } := grantPins_frame s.rounds

theorem finish_sources (s : State) : s.finish.sources = s.sources := by rw [finish_frame]; exact (keeps_rounds s).sources
theorem finish_segments (s : State) : s.finish.segments = s.segments := by rw [finish_frame]; exact (keeps_rounds s).segments
theorem finish_accPtr (s : State) : s.finish.accPtr = s.accPtr := by rw [finish_frame]; exact (keeps_rounds s).accPtr
theorem finish_checks (s : State) : s.finish.checks = s.checks := by rw [finish_frame]; exact (keeps_rounds s).checks
theorem finish_alertMask (s : State) : s.finish.alertMask = s.alertMask := by
  rw [finish_frame]; exact (keeps_rounds s).alertMask
theorem finish_patrolInterval (s : State) : s.finish.patrolInterval = s.patrolInterval := by
  rw [finish_frame]; exact (keeps_rounds s).patrolInterval
theorem finish_mem (s : State) : s.finish.mem = s.mem := by rw [finish_frame]; exact (keeps_rounds s).mem
theorem finish_pending (s : State) : s.finish.pending = s.pending := by rw [finish_frame]; exact (keeps_rounds s).pending

/-! ## The parity of the patrol group -/

/-- Entry into the profile leaves the parity that the PROFILE_WRITE gave the group (R88, R134). -/
theorem admitPatrol_patrolOk (g : Region) : g.admitPatrol.patrolOk = g.patrolOk := by
  unfold Region.admitPatrol
  split
  · split <;> rfl
  · rfl

/-! ## The alert flags that faults raise -/

/-- No alert flag but CONTAINED and FURTHER_FAULT has changed, and none has been cleared: those of `m` are set, and noted
where they were clear (R156, R157). -/
def FaultFlags (s t : State) : Prop :=
  ∃ m : BitVec 64, m &&& ~~~3#64 = 0 ∧ t.alerts = s.alerts ||| m ∧ t.raised = s.raised ||| (m &&& ~~~s.alerts)

theorem FaultFlags.of_eq {s t : State} (ha : t.alerts = s.alerts) (hr : t.raised = s.raised) : FaultFlags s t :=
  ⟨0, by simp, by simp [ha], by simp [hr]⟩

theorem FaultFlags.refl (s : State) : FaultFlags s s := .of_eq rfl rfl

theorem FaultFlags.trans {s t u : State} : FaultFlags s t → FaultFlags t u → FaultFlags s u := by
  rintro ⟨m, hm, ha, hr⟩ ⟨n, hn, hb, hq⟩
  refine ⟨m ||| n, ?_, ?_, ?_⟩
  · rw [BitVec.and_comm, BitVec.and_or_distrib_left, BitVec.and_comm _ m, BitVec.and_comm _ n, hm, hn]
    rfl
  · rw [hb, ha, BitVec.or_assoc]
  · rw [hq, hr, ha]
    ext i hi
    simp only [BitVec.getElem_or, BitVec.getElem_and, BitVec.getElem_not]
    cases s.raised[i] <;> cases m[i] <;> cases n[i] <;> cases s.alerts[i] <;> rfl

theorem faultFlags_foldl {α : Type} (f : State → α → State) (h : ∀ s a, FaultFlags s (f s a)) (l : List α) (s : State) :
    FaultFlags s (l.foldl f s) := by
  induction l generalizing s with
  | nil => exact .refl s
  | cons a l ih => exact (h s a).trans (ih (f s a))

theorem faultFlags_contained (s : State) : FaultFlags s (s.raise .contained) := ⟨1#64, by decide, rfl, rfl⟩

theorem faultFlags_furtherFault (s : State) : FaultFlags s (s.raise .furtherFault) := ⟨2#64, by decide, rfl, rfl⟩

theorem faultFlags_release (s : State) (i : CtxId) : FaultFlags s (s.release i) := .of_eq rfl rfl

theorem faultFlags_join (s : State) (p : Port) (f : List Word) : FaultFlags s (s.join p f) := .of_eq rfl rfl

theorem faultFlags_endCtx (s : State) (i : CtxId) (st : Status) (ws : List Word) : FaultFlags s (s.endCtx i st ws) := by
  unfold State.endCtx State.handOver State.clearMarker
  dsimp only
  split <;> split <;> exact .of_eq rfl rfl

theorem faultFlags_poisonEntry (s : State) (f : FaultItem) : FaultFlags s (s.poisonEntry f) := by
  cases f <;> exact .of_eq rfl rfl

theorem faultFlags_contain (s : State) (f : FaultItem) : FaultFlags s (s.contain f) := by
  have h0 : FaultFlags s { s with record := some { item := f, prior := s.mode }, mode := .contained, failPin := true } :=
    .of_eq rfl rfl
  have h2 : ∀ u : State, FaultFlags u { u with regions := u.regions.map Region.halt, holder := none, waiting := [] } :=
    fun _ => .of_eq rfl rfl
  exact (((h0.trans (faultFlags_poisonEntry _ f)).trans (h2 _)).trans
    (faultFlags_foldl _ (fun s i => faultFlags_endCtx s i .contained []) _ _)).trans (faultFlags_contained _)

theorem faultFlags_takeFault (s : State) (f : FaultItem) : FaultFlags s (s.takeFault f) := by
  unfold State.takeFault
  split
  · exact (faultFlags_poisonEntry s f).trans (faultFlags_furtherFault _)
  · exact faultFlags_contain s f

theorem faultFlags_faultAt (s : State) (k : CheckKind) (f : FaultItem) : FaultFlags s (s.faultAt k f) :=
  (FaultFlags.of_eq rfl rfl : FaultFlags s { s with inject := s.inject.consume k }).trans (faultFlags_takeFault _ f)

theorem faultFlags_serveHead (s : State) (p : Port) : FaultFlags s (s.serveHead p) := by
  have h : ∀ v, FaultFlags s (s.setPort p v) := fun _ => .of_eq rfl rfl
  unfold State.serveHead
  split
  · exact .refl s
  · dsimp only
    split
    · exact ((h _).trans (faultFlags_release _ _)).trans (faultFlags_faultAt _ _ _)
    · split
      · exact ((h _).trans (faultFlags_release _ _)).trans (faultFlags_faultAt _ _ _)
      · exact ((h _).trans (faultFlags_join _ p _)).trans (faultFlags_release _ _)

theorem faultFlags_serveFuel (n : Nat) (s : State) : FaultFlags s (State.serveFuel n s) := by
  induction n generalizing s with
  | zero => exact .refl s
  | succ n ih =>
    unfold State.serveFuel
    split
    · exact (faultFlags_serveHead s _).trans (ih _)
    · exact .refl s

theorem faultFlags_serveAll (s : State) : FaultFlags s s.serveAll := faultFlags_serveFuel 32 s

theorem faultFlags_offerTo (s : State) (i : SourceId) : FaultFlags s (s.offerTo i) := by
  unfold State.offerTo State.offerAlert
  dsimp only
  split
  · exact (faultFlags_faultAt s _ _).trans (faultFlags_serveAll _)
  · split
    · split
      · split
        · exact (faultFlags_faultAt s _ _).trans (faultFlags_serveAll _)
        · exact faultFlags_join s _ _
      · exact .refl s
    · exact .refl s

/-- What one offer round does to the flags, from a state with none noted. -/
theorem faultFlags_alertRound (s : State) : FaultFlags { s with raised := 0 } s.alertRound :=
  faultFlags_foldl _ faultFlags_offerTo _ _

/-! ## Turns -/

theorem keeps_issueCtx (s : State) (r : RegionId) (k : Nat) (i : CtxId) : Keeps s (s.issueCtx r k i) := by
  unfold State.issueCtx
  dsimp only
  split
  · exact Keeps.refl s
  · exact (keeps_setCtx s i _).trans (keeps_setRegion _ r _)

theorem keeps_turnCtx (s : State) (r : RegionId) (k : Nat) (i : CtxId) : Keeps s (s.turnCtx r k i) := by
  unfold State.turnCtx
  split
  · exact keeps_faultAt s _ _
  · dsimp only
    split
    · exact keeps_faultAt s _ _
    · exact keeps_issueCtx s r k i

theorem keeps_turnPatrol (s : State) (r : RegionId) : Keeps s (s.turnPatrol r) := by
  unfold State.turnPatrol
  dsimp only
  split
  · exact keeps_faultAt s _ _
  · split
    · exact Keeps.refl s
    · exact keeps_setRegion s r _

theorem keeps_takeTurn (s : State) (r : RegionId) : Keeps s (s.takeTurn r) := by
  unfold State.takeTurn
  dsimp only
  split
  · split
    · exact keeps_turnPatrol s r
    · split
      · exact keeps_turnCtx s r _ _
      · exact Keeps.refl s
  · exact Keeps.refl s

theorem keeps_takeTurns (s : State) (l : List RegionId) : Keeps s (s.takeTurns l) := keeps_foldl _ keeps_takeTurn l s

theorem keeps_applyTiming (s : State) (r : RegionId) (t : TimingGroup) : Keeps s (s.applyTiming r t) :=
  (keeps_setRegion s r _).trans (keeps_raise _ _)

theorem keeps_carryOut (s : State) (r : RegionId) : Keeps s (s.carryOut r) := by
  unfold State.carryOut
  dsimp only
  split
  · split
    · exact keeps_applyTiming s r _
    · exact keeps_setRegion s r _
    · exact keeps_enterOffline s r
    · exact Keeps.refl s
  · exact Keeps.refl s

/-! ## Strobe-feedback inputs -/

theorem keeps_takeInputs (s : State) (r : RegionId) : Keeps s (s.takeInputs r) :=
  ⟨rfl, rfl, rfl, rfl, rfl, rfl, rfl, rfl, rfl, rfl⟩

theorem keeps_becomeReady (s : State) (r : RegionId) : Keeps s (s.becomeReady r) := by
  unfold State.becomeReady
  split
  · exact keeps_takeInputs s r
  · exact ⟨rfl, rfl, rfl, rfl, rfl, rfl, rfl, rfl, rfl, rfl⟩

theorem keeps_releaseInputs (s : State) : Keeps s s.releaseInputs := by
  unfold State.releaseInputs
  split
  · exact ⟨rfl, rfl, rfl, rfl, rfl, rfl, rfl, rfl, rfl, rfl⟩
  · exact ⟨rfl, rfl, rfl, rfl, rfl, rfl, rfl, rfl, rfl, rfl⟩

theorem keeps_leaveInputs (s : State) (r : RegionId) : Keeps s (s.leaveInputs r) := by
  unfold State.leaveInputs
  split
  · exact keeps_releaseInputs s
  · exact ⟨rfl, rfl, rfl, rfl, rfl, rfl, rfl, rfl, rfl, rfl⟩

/-! ## Responses -/

theorem keeps_respond (s : State) (p : Port) (h : Hdr) (code : Nat) (st : Status) (ws : List Word) :
    Keeps s (s.respond p h code st ws) := by
  unfold State.respond
  split
  · split
    · exact keeps_faultAt s _ _
    · exact keeps_join s p _
  · exact Keeps.refl s

/-! ## Acceptance -/

/-- A frame that is not the next one is not accepted. -/
theorem accept_other {s : State} {c : Instr} (p : Port) (body : State → State) (h : s.nextAcceptance ≠ some c) :
    s.accept c p body = s := if_neg h

/-- The next frame leaves its queue, its request is carried out, and the event ends. -/
theorem accept_next {s : State} {c : Instr} (p : Port) (body : State → State) (h : s.nextAcceptance = some c) :
    s.accept c p body = (body (s.takeFrame p)).finish := if_pos h

theorem takeFrame_sources (s : State) (p : Port) : (s.takeFrame p).sources = s.sources := by
  unfold State.takeFrame; dsimp only; split <;> rfl

theorem takeFrame_segments (s : State) (p : Port) : (s.takeFrame p).segments = s.segments := by
  unfold State.takeFrame; dsimp only; split <;> rfl

theorem takeFrame_mode (s : State) (p : Port) : (s.takeFrame p).mode = s.mode := by
  unfold State.takeFrame; dsimp only; split <;> rfl

theorem takeFrame_mem (s : State) (p : Port) : (s.takeFrame p).mem = s.mem := by
  unfold State.takeFrame; dsimp only; split <;> rfl

theorem takeFrame_sourceFaults (s : State) (p : Port) (i : SourceId) :
    (s.takeFrame p).sourceFaults i = s.sourceFaults i := by
  unfold State.takeFrame; dsimp only; split <;> rfl

theorem takeFrame_source (s : State) (p : Port) (i : SourceId) : (s.takeFrame p).source i = s.source i := by
  unfold State.takeFrame; dsimp only; split <;> rfl

/-- The body of a management frame that is admitted runs on the state with the frame taken. -/
theorem acceptManage_admitted (s : State) (p : Port) (h : Hdr) (code : Nat) (body : State → State)
    (hf : s.sourceFaults h.src = false) (hv : (s.source h.src).valid = true) (hp : (s.source h.src).port = p)
    (hm : (s.source h.src).manager = true) : s.acceptManage p h code body = body s := by
  simp [State.acceptManage, State.checkSource, hf, hv, hp, hm]

/-- The body of a data frame that passes checks 1 to 4 runs on the state with the frame taken. -/
theorem acceptData_passed (s : State) (p : Port) (h : Hdr) (code : Nat) (body : State → State)
    (hf : s.sourceFaults h.src = false) (hv : (s.source h.src).valid = true) (hp : (s.source h.src).port = p)
    (hm : s.mode = .run) : s.acceptData p h code body = body s := by
  simp [State.acceptData, State.checkSource, State.checkMode, hf, hv, hp, hm]

/-- Attached memory keeps its canonical form through a device reset. -/
theorem wf_memAfterReset {s : State} (h : s.mem.wf = true) : s.memAfterReset.wf = true := by
  unfold State.memAfterReset
  generalize List.finRange 8 = l
  revert h
  generalize s.mem = m
  intro h
  induction l generalizing m with
  | nil => exact h
  | cons r l ih =>
    apply ih
    dsimp only
    split
    · exact wf_land _ _ _ h
    · exact h

end Sys2Proof.Machine
end

