-- ==== Sys2Proof/Laws/PerInstr.lean ====
section
/-!
SUPPORT. The family Frame: a command has a frame exactly where it is the acceptance of one on a port. One lemma for each
command.
-/

namespace Sys2Proof

/-- A command has a frame exactly where it is the acceptance of one on a port. -/
def Laws.Frame.Statement (i : Instr) : Prop := (frameWords i).isSome = i.acceptPort.isSome

theorem Laws.Frame.deviceReset : Laws.Frame.Statement (.deviceReset) := rfl
theorem Laws.Frame.frameArrival (p : Port) (words : List Word) (ragged : Bool) : Laws.Frame.Statement (.frameArrival p words ragged) := rfl
theorem Laws.Frame.linkCredit (p : Port) : Laws.Frame.Statement (.linkCredit p) := rfl
theorem Laws.Frame.partnerCreditRestore (p : Port) (credits : Nat) : Laws.Frame.Statement (.partnerCreditRestore p credits) := rfl
theorem Laws.Frame.frameSent (p : Port) : Laws.Frame.Statement (.frameSent p) := rfl
theorem Laws.Frame.undecodableFrame (p : Port) (words : List Word) : Laws.Frame.Statement (.undecodableFrame p words) := rfl
theorem Laws.Frame.read (p : Port) (h : Hdr) (seg : SegNo) (ring : Ring) (off : Nat) (len : Nat) : Laws.Frame.Statement (.read p h seg ring off len) := rfl
theorem Laws.Frame.write (p : Port) (h : Hdr) (seg : SegNo) (ring : Ring) (off : Nat) (len : Nat) (payload : List Word) : Laws.Frame.Statement (.write p h seg ring off len payload) := rfl
theorem Laws.Frame.compareSwap (p : Port) (h : Hdr) (seg : SegNo) (ring : Ring) (off : Nat) (expected : Word) (new : Word) : Laws.Frame.Statement (.compareSwap p h seg ring off expected new) := rfl
theorem Laws.Frame.append (p : Port) (h : Hdr) (seg : SegNo) (ring : Ring) (payload : List Word) : Laws.Frame.Statement (.append p h seg ring payload) := rfl
theorem Laws.Frame.journalRestart (p : Port) (h : Hdr) (seg : SegNo) (ring : Ring) (first : Nat) : Laws.Frame.Statement (.journalRestart p h seg ring first) := rfl
theorem Laws.Frame.cursorSet (p : Port) (h : Hdr) (cur : Fin 2) (seg : SegNo) (ring : Ring) (pos : Nat) (count : Nat) (size : Nat) : Laws.Frame.Statement (.cursorSet p h cur seg ring pos count size) := rfl
theorem Laws.Frame.cursorRead (p : Port) (h : Hdr) (cur : Fin 2) : Laws.Frame.Statement (.cursorRead p h cur) := rfl
theorem Laws.Frame.cursorWrite (p : Port) (h : Hdr) (cur : Fin 2) (low : Word) (high : Word) : Laws.Frame.Statement (.cursorWrite p h cur low high) := rfl
theorem Laws.Frame.cursorQuery (p : Port) (h : Hdr) (cur : Fin 2) : Laws.Frame.Statement (.cursorQuery p h cur) := rfl
theorem Laws.Frame.sourceWrite (p : Port) (h : Hdr) (idx : Nat) (f : SourceFields) : Laws.Frame.Statement (.sourceWrite p h idx f) := rfl
theorem Laws.Frame.sourceRead (p : Port) (h : Hdr) (idx : Nat) : Laws.Frame.Statement (.sourceRead p h idx) := rfl
theorem Laws.Frame.segmentWrite (p : Port) (h : Hdr) (seg : Nat) (d : SegOperands) : Laws.Frame.Statement (.segmentWrite p h seg d) := rfl
theorem Laws.Frame.segmentRead (p : Port) (h : Hdr) (seg : Nat) : Laws.Frame.Statement (.segmentRead p h seg) := rfl
theorem Laws.Frame.profileWriteClock (p : Port) (h : Hdr) (region : Nat) (g : ClockGroup) : Laws.Frame.Statement (.profileWriteClock p h region g) := rfl
theorem Laws.Frame.profileWriteTiming (p : Port) (h : Hdr) (region : Nat) (g : TimingGroup) : Laws.Frame.Statement (.profileWriteTiming p h region g) := rfl
theorem Laws.Frame.profileWritePatrol (p : Port) (h : Hdr) (region : Nat) (g : PatrolGroup) : Laws.Frame.Statement (.profileWritePatrol p h region g) := rfl
theorem Laws.Frame.profileRead (p : Port) (h : Hdr) (region : Nat) : Laws.Frame.Statement (.profileRead p h region) := rfl
theorem Laws.Frame.regionCommandOnline (p : Port) (h : Hdr) (mask : BitVec 8) : Laws.Frame.Statement (.regionCommandOnline p h mask) := rfl
theorem Laws.Frame.regionCommandOffline (p : Port) (h : Hdr) (mask : BitVec 8) : Laws.Frame.Statement (.regionCommandOffline p h mask) := rfl
theorem Laws.Frame.regionCommandPark (p : Port) (h : Hdr) (mask : BitVec 8) : Laws.Frame.Statement (.regionCommandPark p h mask) := rfl
theorem Laws.Frame.regionCommandUnpark (p : Port) (h : Hdr) (mask : BitVec 8) : Laws.Frame.Statement (.regionCommandUnpark p h mask) := rfl
theorem Laws.Frame.regionCommandTrain (p : Port) (h : Hdr) (mask : BitVec 8) : Laws.Frame.Statement (.regionCommandTrain p h mask) := rfl
theorem Laws.Frame.portControlEnable (p : Port) (h : Hdr) (rx : BitVec 4) (tx : BitVec 4) : Laws.Frame.Statement (.portControlEnable p h rx tx) := rfl
theorem Laws.Frame.portControlDisable (p : Port) (h : Hdr) (rx : BitVec 4) (tx : BitVec 4) : Laws.Frame.Statement (.portControlDisable p h rx tx) := rfl
theorem Laws.Frame.checkControlEnable (p : Port) (h : Hdr) : Laws.Frame.Statement (.checkControlEnable p h) := rfl
theorem Laws.Frame.checkControlDisable (p : Port) (h : Hdr) : Laws.Frame.Statement (.checkControlDisable p h) := rfl
theorem Laws.Frame.checkControlInject (p : Port) (h : Hdr) (check : Nat) : Laws.Frame.Statement (.checkControlInject p h check) := rfl
theorem Laws.Frame.patrolSet (p : Port) (h : Hdr) (interval : Nat) : Laws.Frame.Statement (.patrolSet p h interval) := rfl
theorem Laws.Frame.statusRead (p : Port) (h : Hdr) : Laws.Frame.Statement (.statusRead p h) := rfl
theorem Laws.Frame.alertControlEnable (p : Port) (h : Hdr) (kinds : BitVec 9) : Laws.Frame.Statement (.alertControlEnable p h kinds) := rfl
theorem Laws.Frame.alertControlDisable (p : Port) (h : Hdr) (kinds : BitVec 9) : Laws.Frame.Statement (.alertControlDisable p h kinds) := rfl
theorem Laws.Frame.alertClear (p : Port) (h : Hdr) (flags : BitVec 64) : Laws.Frame.Statement (.alertClear p h flags) := rfl
theorem Laws.Frame.start (p : Port) (h : Hdr) : Laws.Frame.Statement (.start p h) := rfl
theorem Laws.Frame.softReset (p : Port) (h : Hdr) : Laws.Frame.Statement (.softReset p h) := rfl
theorem Laws.Frame.clearContainment (p : Port) (h : Hdr) : Laws.Frame.Statement (.clearContainment p h) := rfl
theorem Laws.Frame.burstCompletion (r : RegionId) (dev : List BusDeviation) : Laws.Frame.Statement (.burstCompletion r dev) := rfl
theorem Laws.Frame.readyTimeout (r : RegionId) (moved : Nat) : Laws.Frame.Statement (.readyTimeout r moved) := rfl
theorem Laws.Frame.abandonedBurstEnd (r : RegionId) (release : Option Nat) : Laws.Frame.Statement (.abandonedBurstEnd r release) := rfl
theorem Laws.Frame.settleExpiry (r : RegionId) : Laws.Frame.Statement (.settleExpiry r) := rfl
theorem Laws.Frame.patrolIntervalExpiry : Laws.Frame.Statement (.patrolIntervalExpiry) := rfl
theorem Laws.Frame.strobeSample (input : Fin 4) (level : Bool) : Laws.Frame.Statement (.strobeSample input level) := rfl
theorem Laws.Frame.stepTimerExpiry : Laws.Frame.Statement (.stepTimerExpiry) := rfl

end Sys2Proof
end

