-- ==== Sys2Proof/Tests/Slice0.lean ====
section
/-!
SUPPORT. Tests: ill-formed commands that WellFormed refuses, frames written out from Chapter 12 and the commands they are,
worked values of the spec, and for each statement with hypotheses a state and operands that meet them, clause by clause.
-/

namespace Sys2Proof.Tests

-- The kernel evaluates one test at a time, so that their stacks never stand in memory together.
set_option Elab.async false

open Sys2Proof.Machine

/-! ## Small states -/

/-- The boot manager's header, source 0 with tag 7. -/
def h0 : Hdr := { src := 0, tag := 7 }

/-- A header of source 1, which is no manager. -/
def h1 : Hdr := { src := 1, tag := 3 }

/-- A timing group with bursts of 4 words and ready monitoring. -/
def tm : TimingGroup :=
  { burst := 4, nativeWrap := false, page := 16, first := 12, hit := 4, monitor := true, readyLimit := 200 }

/-- A SYNC clock group of a 32-bit bus. -/
def ck : ClockGroup := { sync := true, wide := true, divider := 2, parityLane := false }

/-- A descriptor of 64 words at word 16 of region 0, open to ring 2, with order block 8. -/
def desc (k : SegKind) : Descriptor :=
  { kind := k, region := 0, base := 16, limit := 64, readBracket := 2, writeBracket := 2, order := .rotate, block := 8 }

/-- An ONLINE trained region. -/
def up : Region := { Region.reset with state := .online, clock := ck, timing := tm, trained := true }

/-- After reset, with segments 1 DIRECT, 2 INDIRECT and 3 JOURNAL in region 0, which is ONLINE, source 1 on port A in
ring 1 with limit 2, and the mode RUN. -/
def ready : State :=
  { State.reset with
    sources := State.reset.sources.set 1
      { fields := { valid := true, port := .A, ring := 1, manager := false, alertTarget := false, limit := 2 },
        parityOk := true },
    segments := ((State.reset.segments.set 1 { desc := desc .direct, parityOk := true }).set 2
      { desc := desc .indirect, parityOk := true }).set 3 { desc := desc .journal, parityOk := true },
    regions := State.reset.regions.set 0 up, mode := .run }

/-- The frame of a command stands alone in port A's ingress queue. -/
def offer (s : State) (c : Instr) : State := s.setPort .A { s.port .A with ingress := [(frameWords c).getD []] }

/-- The state with region 0 replaced. -/
def withRegion (g : Region) : State := ready.setRegion 0 g

/-- A region in a given state. -/
def inState (x : RegionState) : Region := { up with state := x }

/-- A burst of 4 words at region word address 16 for context 0. -/
def burst (write : Bool) : Burst :=
  { owner := .ctx 0, addr := 16, len := 4, wrap := false, write := write,
    data := if write then List.replicate 4 (5#32, 15#4) else [], clock := ck, timing := tm, latency := 12,
    abandoned := false }

/-- The region with a burst on its bus. -/
def flying (x : RegionState) (b : Burst) : Region := { inState x with queue := [0], burst := some b }

/-- A SERVING READ of 8 words whose first burst is out, with one burst left. -/
def reading : Context :=
  { Context.free with
    state := .serving, stage := .main, region := 0, addr := 16, first := 16, last := 24, length := 8,
    pieces := some [{ addr := 20, len := 4, wrap := false }] }

/-- Region 0 with the READ's burst in flight on the pins. -/
def served : State := { (withRegion (flying .online (burst false))).setCtx 0 reading with pins := some 0 }

/-- The part in containment after a CONTEXT fault in RUN. -/
def held : State :=
  { ready with
    mode := .contained, failPin := true, record := some { item := .context 3, prior := .run },
    regions := Vector.replicate 8 { up with state := .halted, prior := some .online } }

/-- The checks enabled. -/
def checked (s : State) : State := { s with checks := true }

/-- A pending injection of every check, with the checks enabled. -/
def injected (s : State) : State :=
  { s with checks := true, inject := { table := true, context := true, memory := true, egress := true } }

/-- The test that `fromSource` holds on port A. -/
def comes (s : State) (c : Instr) (h : Hdr) : Bool :=
  s.nextAcceptance == some c && !s.sourceFaults h.src && (s.source h.src).valid && (s.source h.src).port == .A

/-- The test that a management frame of the boot manager is admitted. -/
def admitted (s : State) (c : Instr) : Bool := comes s c h0 && (s.source h0.src).manager

/-- The test that a data frame of the boot source passes checks 1 to 4. -/
def passed (s : State) (c : Instr) : Bool := comes s c h0 && s.mode == .run

/-- A step answers a next state with a property. -/
def answers (o : Host.Outcome State Fault Refusal) (f : State → Bool) : Bool :=
  match o with
  | .next s => f s
  | .fault _ => false
  | .refused _ => false

theorem comes_iff {s : State} {c : Instr} {h : Hdr} : comes s c h = true ↔ s.fromSource c .A h := by
  simp [comes, State.fromSource, and_assoc]

theorem admitted_iff {s : State} {c : Instr} : admitted s c = true ↔ s.admits c .A h0 := by
  simp [admitted, State.admits, comes_iff]

theorem passed_iff {s : State} {c : Instr} : passed s c = true ↔ s.passesData c .A h0 := by
  simp [passed, State.passesData, comes_iff]

/-! ## WellFormed refuses -/

theorem test_wf_frame_length : Instr.wf (.undecodableFrame .A [0, 0]) = false ∧
    Instr.wf (.undecodableFrame .A (List.replicate 71 0)) = false := by decide +kernel

theorem test_wf_data : Instr.wf (.read .A h0 1 0 16777216 1) = false ∧ Instr.wf (.read .A h0 1 0 0 0) = false ∧
    Instr.wf (.read .A h0 1 0 0 65) = false ∧ Instr.wf (.write .A h0 1 0 16777216 1 [0]) = false ∧
    Instr.wf (.write .A h0 1 0 0 0 []) = false ∧ Instr.wf (.write .A h0 1 0 0 65 (List.replicate 65 0)) = false ∧
    Instr.wf (.write .A h0 1 0 0 2 [0]) = false ∧ Instr.wf (.compareSwap .A h0 1 0 16777216 0 0) = false ∧
    Instr.wf (.append .A h0 1 0 []) = false ∧ Instr.wf (.append .A h0 1 0 (List.replicate 61 0)) = false ∧
    Instr.wf (.journalRestart .A h0 1 0 16777216) = false := by decide +kernel

theorem test_wf_cursor : Instr.wf (.cursorSet .A h0 0 1 0 8388608 1 1) = false ∧
    Instr.wf (.cursorSet .A h0 0 1 0 0 65536 1) = false ∧ Instr.wf (.cursorSet .A h0 0 1 0 0 1 3) = false := by
  decide +kernel

/-- Operands of SEGMENT_WRITE for the tests. -/
def so (k : SegKind) (region base limit block : Nat) : SegOperands :=
  { kind := k, region := region, base := base, limit := limit, readBracket := 2, writeBracket := 2, order := .rotate,
    block := block }

/-- Source fields that keep the boot manager in. -/
def sf (limit : Nat) : SourceFields :=
  { valid := true, port := .A, ring := 0, manager := true, alertTarget := true, limit := limit }

theorem test_wf_tables : Instr.wf (.sourceWrite .A h0 256 (sf 1)) = false ∧ Instr.wf (.sourceWrite .A h0 0 (sf 16)) = false ∧
    Instr.wf (.sourceRead .A h0 256) = false ∧ Instr.wf (.segmentWrite .A h0 1024 (so .direct 0 0 1 1)) = false ∧
    Instr.wf (.segmentWrite .A h0 0 (so .direct 16 0 1 1)) = false ∧
    Instr.wf (.segmentWrite .A h0 0 (so .direct 0 16777216 1 1)) = false ∧
    Instr.wf (.segmentWrite .A h0 0 (so .direct 0 0 2097152 1)) = false ∧
    Instr.wf (.segmentWrite .A h0 0 (so .direct 0 0 1 32)) = false ∧ Instr.wf (.segmentRead .A h0 1024) = false := by
  decide +kernel

/-- A patrol group for the tests. -/
def pg (addr : Nat) : PatrolGroup := { enable := true, addr := addr, pattern := #v[1, 2, 3, 4] }

theorem test_wf_profiles : Instr.wf (.profileWriteClock .A h0 16 ck) = false ∧
    Instr.wf (.profileWriteClock .A h0 0 { ck with divider := 16 }) = false ∧
    Instr.wf (.profileWriteTiming .A h0 16 tm) = false ∧
    Instr.wf (.profileWriteTiming .A h0 0 { tm with burst := 32 }) = false ∧
    Instr.wf (.profileWriteTiming .A h0 0 { tm with page := 2048 }) = false ∧
    Instr.wf (.profileWriteTiming .A h0 0 { tm with first := 32 }) = false ∧
    Instr.wf (.profileWriteTiming .A h0 0 { tm with hit := 16 }) = false ∧
    Instr.wf (.profileWriteTiming .A h0 0 { tm with readyLimit := 4096 }) = false ∧
    Instr.wf (.profileWritePatrol .A h0 16 (pg 0)) = false ∧
    Instr.wf (.profileWritePatrol .A h0 0 (pg 16777216)) = false ∧ Instr.wf (.profileRead .A h0 16) = false := by
  decide +kernel

theorem test_wf_control : Instr.wf (.checkControlInject .A h0 8) = false ∧ Instr.wf (.patrolSet .A h0 1024) = false := by
  decide +kernel

theorem test_wf_events : Instr.wf (.burstCompletion 0 [{ index := 16, seen := 0, parityOk := true }]) = false ∧
    Instr.wf (.readyTimeout 0 16) = false ∧ Instr.wf (.abandonedBurstEnd 0 (some 16)) = false := by decide +kernel

/-! ## Frames and the check word (Chapter 12, R147) -/

/-- The check value of this CRC over the bytes "123456789". -/
theorem test_crc_check_value :
    [0x31#8, 0x32#8, 0x33#8, 0x34#8, 0x35#8, 0x36#8, 0x37#8, 0x38#8, 0x39#8].foldl crcByte 0xFFFF#16 = 0x29B1#16 := by
  decide +kernel

/-- READ of segment 20, ring 3, length 16, offset 5, by source 5 with tag 71: bits written out from Tables 12-1 and 12-4. -/
theorem test_decode_read : frameInstr .B
    [0b000001000111_000101_00001_00_0000100#32, 0b000000000_0010000_00000_11_000010100#32, 5, 0] =
      .read .B { src := 5, tag := 71 } 20 3 5 16 := by decide +kernel

/-- CURSOR_SET of cursor 1 on segment 3, ring 2, item size 4, position 100, count 9, by source 2 with tag 1. -/
theorem test_decode_cursor_set : frameInstr .C
    [0b000000000001_000010_01000_00_0000101#32, 0b0000_0100_0000000000_01_0_10_000000011#32, 100, 9, 0] =
      .cursorSet .C { src := 2, tag := 1 } 1 3 2 100 9 4 := by decide +kernel

/-- SOURCE_WRITE of entry 9: valid, port C, ring 3, no MANAGER, ALERT_TARGET, limit 4 (Table 12-8). -/
theorem test_decode_source_write : frameInstr .A
    [0b000000000000_000000_00001_01_0000011#32, 0b000000000000_0100_0_1_0_11_10_1_00001001#32, 0] =
      .sourceWrite .A { src := 0, tag := 0 } 9
        { valid := true, port := .C, ring := 3, manager := false, alertTarget := true, limit := 4 } := by decide +kernel

/-- PROFILE_WRITE of the timing group of region 2: B 8, native wrap, P 64, first 12, hit 4, monitoring, limit 200. -/
theorem test_decode_profile_timing : frameInstr .A
    [0b000000000000_000000_00101_01_0000101#32, 0b01_0010#32,
     0b000_0100_01100_0_00001000000_00_1_01000#32, 0b000011001000_000_1#32, 0] =
      .profileWriteTiming .A { src := 0, tag := 0 } 2
        { burst := 8, nativeWrap := true, page := 64, first := 12, hit := 4, monitor := true, readyLimit := 200 } := by
  decide +kernel

/-- REGION_COMMAND PARK of regions 1 and 7 (Table 12-8). -/
theorem test_decode_region_command : frameInstr .A
    [0b000000000000_000000_00111_01_0000011#32, 0b10000010_00000_010#32, 0] =
      .regionCommandPark .A { src := 0, tag := 0 } 0b10000010 := by decide +kernel

/-- PORT_CONTROL DISABLE of the receivers of B and D and the transmitter of C (Table 12-8). -/
theorem test_decode_port_control : frameInstr .A
    [0b000000000000_000000_01000_01_0000011#32, 0b0100_1010_000000_01#32, 0] =
      .portControlDisable .A { src := 0, tag := 0 } 0b1010 0b0100 := by decide +kernel

/-- A length of 65, a cursor index of 2 and an item size of 3 fail check 1; a class RESPONSE frame is not taken. -/
theorem test_decode_undecodable :
    frameInstr .A [0x00000204#32, 0x00410000#32, 0, 0] = .undecodableFrame .A [0x00000204#32, 0x00410000#32, 0, 0] ∧
    frameInstr .A [0x00001203#32, 0x00002000#32, 0] = .undecodableFrame .A [0x00001203#32, 0x00002000#32, 0] ∧
    frameInstr .A [0x00001005#32, 0x03000000#32, 0, 0, 0] =
      .undecodableFrame .A [0x00001005#32, 0x03000000#32, 0, 0, 0] ∧
    frameInstr .A [0x00000303#32, 0, 0] = .undecodableFrame .A [0x00000303#32, 0, 0] := by decide +kernel

/-- A good frame, and the same with one bit changed. -/
theorem test_good_frame : goodFrame (buildFrame 1 11 h0 [0]) false = true ∧ goodFrame (buildFrame 1 11 h0 [0]) true = false ∧
    goodFrame ((buildFrame 1 11 h0 [0]).set 1 1) false = false ∧ goodFrame [2#32, 0] false = false := by decide +kernel

/-! ## Worked values of the spec -/

/-- The response positions of the wrapped read of start position 5 in a block of 8 (Tables 5-5 and 5-6). -/
theorem test_wrapped_positions :
    ((List.range 8).map fun p => Wrap.position { order := .rotate, block := 8, base := 4096, start := 5 } (4096 + p)) =
      [3, 4, 5, 6, 7, 0, 1, 2] ∧
    ((List.range 8).map fun p => Wrap.position { order := .interchange, block := 8, base := 4096, start := 5 } (4096 + p)) =
      [5, 4, 7, 6, 1, 0, 3, 2] := by decide +kernel

/-- The emulated plan of the same read at burst length 4, and its plan of one wrapping burst (section 5-5). -/
theorem test_wrapped_plan :
    wrapPlan ck tm { order := .rotate, block := 8, base := 4096, start := 5 } 4101 =
      [⟨4101, 3, false⟩, ⟨4096, 4, false⟩, ⟨4100, 1, false⟩] ∧
    wrapPlan ck { tm with burst := 8, nativeWrap := true } { order := .rotate, block := 8, base := 4096, start := 5 } 4101 =
      [⟨4101, 8, true⟩] := by decide +kernel

/-- The wrapped reads of segment 26 at offsets 0, 5, 6, 92 and 93 (Table 5-8). -/
theorem test_unaligned_bounds :
    let d : Descriptor := { desc .direct with region := 2, base := 4098, limit := 100, readBracket := 3 }
    [0, 5, 6, 90, 92, 93].map (fun f => translateRequest d .read 0 f 8) =
      [some .bounds, some .bounds, none, none, none, some .bounds] := by decide +kernel

/-- The append with a hop of section 8-9: the record of 5 words does not fit block C, and is placed at offset 11. -/
theorem test_append_hop :
    let c : Context := { Context.free with
      stage := .main, kind := .append, addr := 0, first := 0, last := 1024, payload := [1, 2, 3, 4, 5], step := .headerRead,
      result := (Working.mk 136 0 0 0 0 false).toResult (List.replicate 64 0),
      scratch := [progressWord 60 412, word 64, word 8] }
    let w : Working := { c := 136, fill := 60, s := 412, size := 64, next := 8, hopped := false }
    c.appendStep = c.goOn .sizeRead w ∧
    { c with step := .anchorWrite, result := w.toResult c.result }.appendStep =
      { c with step := .anchorWrite }.goOn .recordWrite { w with c := 8, fill := 3, hopped := true } ∧
    { c with step := .commit, result := { w with c := 8, fill := 3, hopped := true }.toResult c.result }.appendStep =
      .ends .ok [412, 11] := by decide +kernel

/-- The seek states of lane 1 in Table 7-4: SEEK_ONE until step 19, and FOUND(19) from then on. -/
theorem test_seek : Seek.next 0 .zero (some false) = .one ∧ Seek.next 18 .one (some false) = .one ∧
    Seek.next 19 .one (some true) = .found 19 ∧ Seek.next 31 (.found 19) (some true) = .found 19 := by decide +kernel

/-- Of 1-byte and 2-byte items, the lanes written and the item read (R129). -/
theorem test_cursor_items : (itemWrite 1021 1 [0xAB, 0] 0) = (0x0000AB00#32, 2#4) ∧
    (itemWrite 1018 2 [0x1234, 0] 0) = (0x12340000#32, 12#4) ∧ itemRead 1018 2 0x07C82710#32 0 = (0x07C8#32, 0) ∧
    itemRead 1019 1 0x07C82710#32 0 = (0x07#32, 0) := by decide +kernel

/-- A READ of 3 words is accepted and issued, and its completion answers it with the words of memory. -/
theorem test_read_completes :
    let c := Instr.read .A h0 1 0 8 3
    answers (exec c (offer { ready with mem := { cells := [(96, 9#8)], parity := [] } } c)) (fun s =>
      (s.region 0).burst.map (fun b => (b.addr, b.len, b.latency)) == some (24, 3, 12) &&
        answers (exec (.burstCompletion 0 []) s) fun t =>
          (t.port .A).egress == [responseFrame 1 h0 .ok [9, 0, 0]] && t.count 0 == 0) = true := by decide +kernel

/-- A burst of region 1 waits while region 0's holds the pins, and takes them as that one completes (R71). -/
theorem test_waiting_burst :
    let s := served.setRegion 1 { up with burst := some { burst false with owner := .patrol } }
    answers (exec (.burstCompletion 1 []) s) (fun t => t.pins == some 0 && (t.region 1).burst.isSome) = true ∧
    answers (exec (.readyTimeout 1 0) s) (fun t => t.pins == some 0 && (t.region 1).burst.isSome) = true ∧
    answers (exec (.burstCompletion 0 []) (s.setCtx 0 { reading with pieces := some [] })) (fun t =>
      t.pins == some 1 && (t.region 0).burst.isNone && t.deviceClock == some 2) = true := by decide +kernel

/-- The boot manager starts the part, and is answered OK. -/
theorem test_start : answers (exec (.start .A h0) (offer State.reset (.start .A h0))) (fun s =>
    s.mode == .run && (s.port .A).egress == [responseFrame 14 h0 .ok []]) = true := by decide +kernel

/-- A TABLE injection contains the part at the next acceptance, which is answered CONTAINED (section 10-6). -/
theorem test_injected_table :
    answers (exec (.statusRead .A h0)
        (offer { State.reset with checks := true, inject := { Injection.none with table := true } } (.statusRead .A h0)))
      (fun s => s.mode == .contained && s.failPin && s.record == some { item := .source 0, prior := .config } &&
        (s.port .A).egress == [responseFrame 11 h0 .contained []]) = true := by decide +kernel

/-- The core of the package starts in the state after reset. -/
theorem test_core_reset : core.reset = State.reset := rfl

/-! ## The hypotheses of the statements are met, clause by clause -/

/-- StepRunsFrontCommand. -/
theorem test_met_front : ({ ready with pending := [.start .A h0, .linkCredit .A] }).pending = [.start .A h0, .linkCredit .A] :=
  rfl

/-- DeviceResetValues: a linear write burst of words 16 to 19 carries a datum for each of them. -/
theorem test_met_device_reset_words : ready.mem.wf = true ∧
    ((withRegion (flying .online (burst true))).region 0).burst = some (burst true) ∧ (burst true).write = true ∧
    (burst true).wrap = false ∧ (burst true).inRange = true ∧ (burst true).data.length = (burst true).len ∧
    (burst true).data[3]? = some (5#32, 15#4) ∧ (burst true).abandoned = false ∧ (burst true).owner = .ctx 0 ∧
    reading.kind ≠ .append ∧ reading.kind ≠ .journalRestart := by decide +kernel

/-- A burst of a WRITE in flight at a device reset is carried out; an APPEND's and an abandoned one are not said to be. -/
theorem test_reset_carries_out :
    let s := (withRegion (flying .online (burst true))).setCtx 0 { reading with kind := .write }
    answers (exec .deviceReset s) (fun t => t.mem.readWord 0 16 == 5 && t.mem.readWord 0 19 == 5) = true ∧
    s.carriedOut { burst true with abandoned := true } = false ∧
    (s.setCtx 0 { reading with kind := .append }).carriedOut (burst true) = false := by decide +kernel

/-- DeviceResetValues: with a write burst of words 16 to 19 on the bus, the bytes just before and after are outside it. -/
theorem test_met_device_reset : ∀ x ∈ [byteAddr 0 15 3, byteAddr 0 20 0, byteAddr 1 16 0], ∀ r : RegionId,
    (((withRegion (flying .online (burst true))).region r).burst.all fun b =>
      b.addrs.all fun a => [0, 1, 2, 3].all fun k => x != byteAddr r a k) = true := by decide +kernel

/-- Port A with `n` frames waiting. -/
def full (n : Nat) : State := State.reset.setPort .A { State.reset.port .A with ingress := List.replicate n [3, 0, 0] }

/-- FrameArrivalOutcome: a disabled receiver; a bad and a good frame with 7 and with 8 frames waiting; a 3-word frame is
good and a 2-word one is not. -/
theorem test_met_frame_arrival : (State.reset.port .B).rxOn = false ∧ (full 7).ports.a.rxOn = true ∧
    goodFrame [3, 0, 0] false = false ∧ goodFrame (withCheck [3, 0]) false = true ∧ goodFrame (withCheck [2]) false = false ∧
    (full 7).ports.a.ingress.length < 8 ∧ 8 ≤ (full 8).ports.a.ingress.length ∧ (full 8).ports.a.rxOn = true := by
  decide +kernel

/-- A port that sends nothing, with one frame in its egress queue and one credit. -/
def sender : PortState := { PortState.reset true with egress := [[1, 2]], txCredits := 1 }

/-- CreditsAndSending. -/
theorem test_met_sending : (ready.setPort .A { sender with sending := some [1] }).ports.a.sending = some [1] ∧
    sender.egress = [1, 2] :: [] ∧ sender.txOn = true ∧ sender.sending = none ∧ 0 < sender.txCredits ∧
    { sender with egress := [] }.egress = [] ∧ { sender with txOn := false }.txOn = false ∧
    { sender with sending := some [1] }.sending ≠ none ∧ { sender with txCredits := 0 }.txCredits = 0 := by decide +kernel

/-- ResponseJoinsEgress: a disabled transmitter; 15 frames waiting without and with an EGRESS fault. -/
theorem test_met_response :
    let s := ready.setPort .A { ready.port .A with egress := List.replicate 15 [1] }
    (ready.port .B).txOn = false ∧ (s.port .A).txOn = true ∧ (s.port .A).egress.length < 16 ∧ s.egressFaults = false ∧
    (injected s).egressFaults = true := by decide +kernel

/-- UndecodableFrameAnswered: a READ of length 65, and a REGION_COMMAND of action 7 that is admitted. -/
theorem test_met_undecodable :
    let ws : List Word := [0x00000204#32, 0x00410000#32, 0, 0]
    let us : List Word := [0x00700E83#32, 7, 0]
    (ready.setPort .A { ready.port .A with ingress := [ws] }).nextAcceptance = some (.undecodableFrame .A ws) ∧
    frameClass (ws.headD 0) ≠ 1 ∧
    admitted (ready.setPort .A { ready.port .A with ingress := [us] }) (.undecodableFrame .A us) = true ∧
    frameHdr (us.headD 0) = h0 ∧ frameClass (us.headD 0) = 1 ∧
    unlistedAction (frameCode (us.headD 0)) (frameBody us) = true := by decide +kernel

/-- UndecodableFrameAnswered: a header word of a class and code, with `n` words, the first operand word `w`, behind it. -/
def bare (cls code n : Nat) (w : Word) : List Word := headerWord (n + 2) cls code h0 :: w :: List.replicate n 0

/-- UndecodableFrameAnswered: which frames check 1 fails, at the boundary of each field and count. -/
theorem test_check_one :
    let bad := fun ws => frameInstr .A ws == .undecodableFrame .A ws
    [bare 0 1 2 0x400000, bare 0 1 2 0x10000, bare 0 2 3 0x10000, bare 0 4 2 0, bare 0 4 61 0, bare 0 8 3 0x08001000,
      bare 0 11 1 0x1000, bare 1 5 3 0x10, bare 1 7 1 4, bare 1 9 1 2, bare 1 14 1 0].all (fun ws => !bad ws) = true ∧
    [bare 0 1 2 0x410000, bare 0 1 2 0, bare 0 2 4 0x10000, bare 0 4 1 0, bare 0 4 62 0, bare 0 8 3 0x03001000,
      bare 0 11 1 0x2000, bare 0 6 1 0, bare 1 17 1 0, bare 1 14 2 0, bare 2 1 2 0x10000, bare 3 0 1 0, bare 1 5 2 0x30,
      bare 1 7 1 5, bare 1 9 1 3].all bad = true := by decide +kernel

/-- A READ by the boot source. -/
def aRead : Instr := .read .A h0 1 0 0 1

/-- AdmissionChecksRefuse: a REGION_COMMAND of action 7 from a faulted source entry, an invalid source, a source of another
port and a source that is no manager. -/
theorem test_met_admission_unlisted :
    let us := fun (src : Nat) => ([word (0x00700E83 + src * 16384), 7, 0] : List Word)
    let c := fun (p : Port) (src : Nat) => Instr.undecodableFrame p (us src)
    let at' := fun (s : State) (p : Port) (src : Nat) => s.setPort p { s.port p with ingress := [us src] }
    [0, 1, 2].all (fun n => frameClass ((us n).headD 0) == 1 &&
      unlistedAction (frameCode ((us n).headD 0)) (frameBody (us n)) && (frameHdr ((us n).headD 0)).src.val == n) = true ∧
    (at' (injected ready) .A 0).nextAcceptance = some (c .A 0) ∧ (injected ready).sourceFaults 0 = true ∧
    (at' ready .A 2).nextAcceptance = some (c .A 2) ∧ (ready.source 2).valid = false ∧
    (at' ready .B 0).nextAcceptance = some (c .B 0) ∧ (ready.source 0).port ≠ .B ∧
    comes (at' ready .A 1) (c .A 1) (frameHdr ((us 1).headD 0)) = true ∧ (ready.source 1).manager = false := by
  decide +kernel

/-- AdmissionChecksRefuse: a faulted source entry, an invalid source, a source of another port, the modes CONFIG and
CONTAINED, and a source that is no manager. -/
theorem test_met_admission :
    let bad := Instr.read .A { src := 2, tag := 0 } 1 0 0 1
    let other := Instr.read .B h0 1 0 0 1
    let mine := Instr.statusRead .A h1
    aRead.request = some ⟨.A, h0, 1, true⟩ ∧ mine.request = some ⟨.A, h1, 11, false⟩ ∧
    (offer (injected ready) aRead).nextAcceptance = some aRead ∧ (offer (injected ready) aRead).sourceFaults 0 = true ∧
    (offer ready bad).nextAcceptance = some bad ∧ (offer ready bad).sourceFaults 2 = false ∧
    ((offer ready bad).source 2).valid = false ∧
    (let s := ready.setPort .B { ready.port .B with ingress := [(frameWords other).getD []] }
     s.nextAcceptance = some other ∧ s.sourceFaults 0 = false ∧ (s.source 0).valid = true ∧ (s.source 0).port ≠ .B) ∧
    comes (offer { ready with mode := .config } aRead) aRead h0 = true ∧ comes (offer held aRead) aRead h0 = true ∧
    comes (offer ready mine) mine h1 = true ∧ ((offer ready mine).source 1).manager = false := by decide +kernel

/-- TranslationTestsInOrder: a segment of each kind, and lengths of and beside the order block. -/
theorem test_met_translation : (desc .absent).kind = .absent ∧ (desc .direct).kind = .direct ∧
    (desc .indirect).kind = .indirect ∧ (desc .journal).kind = .journal ∧ (desc .direct).block = 8 ∧
    ¬(7 = (desc .direct).block ∧ 1 < (desc .direct).block) ∧ ReqKind.cursorRead ≠ .read := by decide +kernel

/-- TranslationRefusesAtAcceptance: a faulted descriptor, and a READ that ends one word beyond the segment. -/
theorem test_met_translation_refused :
    let far := Instr.read .A h0 1 0 57 8
    let s := { offer (checked ready) aRead with
      segments := ready.segments.set 1 { desc := desc .direct, parityOk := false } }
    passed s aRead = true ∧ segmentRequest aRead = some ⟨.read, 1, 0, 0, 1, []⟩ ∧ s.segmentFaults 1 = true ∧
    passed (offer ready far) far = true ∧ (offer ready far).segmentFaults 1 = false ∧
    translateRequest ((offer ready far).segment 1) .read ((offer ready far).effectiveRing h0 0) 57 8 = some .bounds := by
  decide +kernel

/-- The test that a segment request of the boot source passes checks 1 to 6. -/
def translated (s : State) (c : Instr) (x : SegmentRequest) : Bool :=
  passed s c && segmentRequest c == some x && !s.segmentFaults x.seg &&
    translateRequest (s.segment x.seg) x.kind (s.effectiveRing h0 x.ring) x.offset x.length == none

/-- RoomChecksRefuse: an OFFLINE and a TRAINING region, a source at its limit, and a full pool. -/
theorem test_met_room :
    let x : SegmentRequest := ⟨.read, 1, 0, 0, 1, []⟩
    translated (offer (withRegion (inState .offline)) aRead) aRead x = true ∧
    translated (offer (withRegion (inState .training)) aRead) aRead x = true ∧
    translated (offer (ready.setCount 0 8) aRead) aRead x = true ∧
    ((ready.setCount 0 8).source 0).limit ≤ (ready.setCount 0 8).count 0 ∧
    (let s := { ready.setCount 0 7 with ctxs := Vector.replicate 32 reading }
     translated (offer s aRead) aRead x = true ∧ s.count 0 < (s.source 0).limit ∧ ∀ i, (s.ctx i).state ≠ .free) := by
  decide +kernel

/-- SegmentRequestGetsContext: each of the five requests passes checks 1 to 6, with room at the limit less one and context 0
taken; and a context of a cursor step is one and another is none. -/
theorem test_met_context :
    let s := (ready.setCount 0 7).setCtx 0 reading
    let c1 := Instr.read .A h0 1 2 56 8
    let c2 := Instr.write .A h0 1 2 63 1 [4]
    let c3 := Instr.compareSwap .A h0 1 2 63 1 2
    let c4 := Instr.append .A h0 3 2 [6]
    let c5 := Instr.journalRestart .A h0 3 2 61
    translated (offer s c1) c1 ⟨.read, 1, 2, 56, 8, []⟩ = true ∧ translated (offer s c2) c2 ⟨.write, 1, 2, 63, 1, [4]⟩ = true ∧
    translated (offer s c3) c3 ⟨.compareSwap, 1, 2, 63, 1, [1, 2]⟩ = true ∧
    translated (offer s c4) c4 ⟨.append, 3, 2, 0, 0, [6]⟩ = true ∧
    translated (offer s c5) c5 ⟨.journalRestart, 3, 2, 61, 0, []⟩ = true ∧
    (s.region 0).state.admitsContexts = true ∧ s.count 0 < (s.source 0).limit ∧ s.freeCtx = some 1 ∧
    reading.kind.isCursor = false ∧ ({ reading with kind := .cursorRead }).kind.isCursor = true := by decide +kernel

/-- NewContextFields: an INDIRECT segment, and a READ of and beside the order block's length. -/
theorem test_met_new_context : (desc .indirect).kind = .indirect ∧ (desc .direct).kind ≠ .indirect ∧
    (8 = (desc .direct).block ∧ 1 < (desc .direct).block) ∧ ¬(1 = (desc .direct).block ∧ 1 < (desc .direct).block) := by
  decide +kernel

/-- A cursor of the boot source on segment 1 whose 4-byte item ends at the segment's last byte. -/
def cur : Cursor := { isSet := true, segment := 1, pos := 254, count := 1, size := 4, ring := 2, inFlight := false }

/-- The checks enabled, with the parity of segment 1's descriptor bad. -/
def torn (s : State) : State := { checked s with segments := s.segments.set 1 { desc := desc .direct, parityOk := false } }

/-- CursorSetTakenOrRefused: a cursor in flight, a faulted descriptor, a segment of each other kind, and the first byte beyond and the last byte
inside the segment. -/
theorem test_met_cursor_set :
    let c := fun (seg : SegNo) (pos : Nat) => Instr.cursorSet .A h0 0 seg 1 pos 3 4
    passed (offer (ready.setCursor 0 0 { cur with inFlight := true }) (c 1 0)) (c 1 0) = true ∧
    passed (offer (torn ready) (c 1 0)) (c 1 0) = true ∧ (torn ready).segmentFaults 1 = true ∧
    passed (offer ready (c 0 0)) (c 0 0) = true ∧ (ready.segment 0).kind = .absent ∧ ready.segmentFaults 0 = false ∧
    passed (offer ready (c 2 0)) (c 2 0) = true ∧ passed (offer ready (c 3 0)) (c 3 0) = true ∧
    passed (offer ready (c 1 256)) (c 1 256) = true ∧ (ready.segment 1).limit * 4 ≤ 256 ∧
    passed (offer ready (c 1 255)) (c 1 255) = true ∧ 255 < (ready.segment 1).limit * 4 ∧
    (ready.cursor 0 0).isSet = false := by decide +kernel

/-- CursorStepTakenOrRefused: an UNSET cursor, one in flight, one with count 0; and both steps on a cursor with one item
left at the segment's end, under a ring at the bracket. -/
theorem test_met_cursor_step :
    let r := Instr.cursorRead .A h0 0
    let w := Instr.cursorWrite .A h0 0 1 2
    let s := ready.setCursor 0 0 cur
    passed (offer ready r) r = true ∧ (ready.cursor 0 0).isSet = false ∧ passed (offer s r) r = true ∧
    passed (offer s w) w = true ∧ (s.cursor 0 0) = cur ∧ s.segmentFaults 1 = false ∧ (s.segment 1).kind = .direct ∧
    cur.pos - cur.pos % cur.size + cur.size ≤ (s.segment 1).limit * 4 ∧ cur.ring.val ≤ (s.segment 1).readBracket.val ∧
    cur.ring.val ≤ (s.segment 1).writeBracket.val ∧ (s.region 0).state.admitsContexts = true ∧
    s.count 0 < (s.source 0).limit ∧ s.freeCtx = some 0 ∧
    passed (offer (ready.setCursor 0 0 { cur with inFlight := true }) w) w = true ∧
    passed (offer (ready.setCursor 0 0 { cur with count := 0 }) w) w = true := by decide +kernel

/-- CursorStepTakenOrRefused, checks 6 to 9: a faulted descriptor; cursors on an ABSENT, an INDIRECT and a JOURNAL segment, on
the first item beyond the segment and under a ring beyond the bracket; a region OFFLINE and TRAINING, a source at its limit
and a full pool. -/
theorem test_met_cursor_step_refused :
    let r := Instr.cursorRead .A h0 0
    let s := fun (cu : Cursor) => ready.setCursor 0 0 cu
    let room := fun (x : State) => passed (offer x r) r && !x.segmentFaults 1 && (x.segment 1).kind == .direct
    [cur, { cur with segment := 0 }, { cur with segment := 2 }, { cur with segment := 3 }, { cur with pos := 256 },
     { cur with ring := 3 }].all
      (fun cu => passed (offer (s cu) r) r && cu.isSet && !cu.inFlight && decide (0 < cu.count)) = true ∧
    passed (offer (torn (s cur)) r) r = true ∧ (torn (s cur)).segmentFaults 1 = true ∧
    (ready.segment 0).kind = .absent ∧ (ready.segment 2).kind = .indirect ∧ (ready.segment 3).kind = .journal ∧
    (ready.segment 1).limit * 4 < 256 - 256 % 4 + 4 ∧ (ready.segment 1).readBracket.val < (3 : Ring).val ∧
    room ((s cur).setRegion 0 (inState .offline)) = true ∧ room ((s cur).setRegion 0 (inState .training)) = true ∧
    room ((s cur).setCount 0 8) = true ∧ (ready.source 0).limit ≤ ((s cur).setCount 0 8).count 0 ∧
    (let x := { (s cur).setCount 0 7 with ctxs := Vector.replicate 32 reading }
     room x = true ∧ x.count 0 < (x.source 0).limit ∧ ∀ i, (x.ctx i).state ≠ .free) := by decide +kernel

/-- CursorQueryAnswered. -/
theorem test_met_cursor_query : passed (offer ready (.cursorQuery .A h0 1)) (.cursorQuery .A h0 1) = true := by
  decide +kernel

/-- SourceWriteTaken, SourceWriteSelfLockout: the requester's own entry kept and cut off, with limits 1 and 8, and a busy
source. -/
theorem test_met_source_write :
    let own := Instr.sourceWrite .A h0 0 (sf 8)
    let cut := Instr.sourceWrite .A h0 0 { sf 1 with manager := false }
    let one := Instr.sourceWrite .A h0 1 (sf 1)
    admitted (offer ready own) own = true ∧ (sf 8).limit ≤ 8 ∧ 1 ≤ (sf 1).limit ∧
    ¬((sf 8).valid = false ∨ (sf 8).manager = false ∨ (sf 8).port ≠ (ready.source 0).port) ∧ ready.count 0 = 0 ∧
    (ready.cursor 0 0).inFlight = false ∧ (ready.cursor 0 1).inFlight = false ∧
    admitted (offer ready cut) cut = true ∧ admitted (offer (ready.setCount 1 1) one) one = true ∧
    (1 : SourceId) ≠ h0.src ∧ 0 < (ready.setCount 1 1).count 1 := by decide +kernel

/-- TableWriteOutOfRange: each operand at its first value out of range. -/
theorem test_met_table_range :
    [Instr.sourceWrite .A h0 64 (sf 1), .sourceWrite .A h0 1 (sf 0), .sourceWrite .A h0 1 (sf 9),
     .segmentWrite .A h0 512 (so .absent 0 0 0 0), .segmentWrite .A h0 1 (so .direct 8 0 1 1),
     .segmentWrite .A h0 1 (so .direct 0 16777216 1 1), .segmentWrite .A h0 1 (so .direct 0 0 1 2),
     .segmentWrite .A h0 1 (so .direct 0 0 0 1), .segmentWrite .A h0 1 (so .direct 0 0 1048577 1),
     .segmentWrite .A h0 1 (so .direct 0 16777215 2 1), .segmentWrite .A h0 1 (so .journal 0 0 7 1),
     .segmentWrite .A h0 1 (so .indirect 0 16777215 2 1)].all
      (fun c => (offer ready c).nextAcceptance.isSome && (ready.source 0).manager) = true ∧
    admitted (offer ready (.sourceWrite .A h0 64 (sf 1))) (.sourceWrite .A h0 64 (sf 1)) = true ∧
    admitted (offer ready (.segmentWrite .A h0 1 (so .journal 0 0 7 1))) (.segmentWrite .A h0 1 (so .journal 0 0 7 1)) = true ∧
    (so .journal 0 0 7 1).limit < 8 := by decide +kernel

/-- SegmentWriteTaken: an ABSENT write with operands out of range, and writes that end at the region's last word. -/
theorem test_met_segment_write :
    let a := Instr.segmentWrite .A h0 511 (so .absent 15 0 0 0)
    let i := Instr.segmentWrite .A h0 4 (so .indirect 7 16777214 0 16)
    let d := Instr.segmentWrite .A h0 4 (so .direct 7 16777215 1 16)
    let j := Instr.segmentWrite .A h0 4 (so .journal 7 16777208 8 1)
    [a, i, d, j].all (fun c => admitted (offer ready c) c) = true ∧ 16777214 + 2 ≤ 16777216 ∧ 16777215 + 1 ≤ 16777216 ∧
    16777208 + 8 ≤ 16777216 := by decide +kernel

/-- TableReadsAnswered: beyond the tables; poisoned, faulted and sound entries at the tables' ends. -/
theorem test_met_table_reads :
    [Instr.sourceRead .A h0 64, .sourceRead .A h0 63, .segmentRead .A h0 512, .segmentRead .A h0 511].all
      (fun c => admitted (offer ready c) c) = true ∧
    (let s := { checked ready with
       sources := ready.sources.set 63 { emptyEntry with parityOk := false },
       segments := ready.segments.set 511 { desc := .reset, parityOk := false } }
     admitted (offer s (.sourceRead .A h0 63)) (.sourceRead .A h0 63) = true ∧ s.sourceFaults 63 = true ∧
     admitted (offer s (.segmentRead .A h0 511)) (.segmentRead .A h0 511) = true ∧ s.segmentFaults 511 = true ∧
     { s with poisonedSources := [63] }.sourceFaults 63 = false ∧
     (63 : SourceId) ∈ ({ s with poisonedSources := [63] }).poisonedSources) ∧
    ready.sourceFaults 63 = false ∧ (63 : SourceId) ∉ ready.poisonedSources ∧ ready.segmentFaults 511 = false ∧
    (511 : SegNo) ∉ ready.poisonedSegments := by decide +kernel

/-- ClockGroupWrite, TimingGroupWrite, PatrolGroupWrite, ProfileReadAnswered: operands at and beyond their ranges' ends are
admitted in a region of every state. -/
theorem test_met_profiles :
    [Instr.profileWriteClock .A h0 8 ck, .profileWriteClock .A h0 0 { ck with divider := 0 },
     .profileWriteClock .A h0 0 { ck with divider := 9 }, .profileWriteClock .A h0 0 { ck with divider := 8 },
     .profileWriteTiming .A h0 8 tm, .profileWriteTiming .A h0 0 { tm with burst := 2 },
     .profileWriteTiming .A h0 0 { tm with burst := 16, page := 1024, first := 31, hit := 15, readyLimit := 4095 },
     .profileWritePatrol .A h0 8 (pg 0), .profileWritePatrol .A h0 0 (pg 2), .profileWritePatrol .A h0 0 (pg 16777212),
     .profileRead .A h0 8, .profileRead .A h0 0].all
      (fun c => [RegionState.offline, .training, .settling, .online, .quiescing, .parked, .halted].all fun x =>
        admitted (offer (withRegion (inState x)) c) c) = true ∧
    (inState .online).inFlight = false ∧ (flying .online (burst false)).inFlight = true ∧
    (let s := checked (withRegion { up with clockOk := false })
     let c := Instr.profileRead .A h0 0
     admitted (offer s c) c = true ∧ (s.region 0).poison.any = false ∧
     (s.profileFaults 0 { clock := true, timing := true, patrol := true }).any = true ∧
     ({ up with poison := { Groups.none with clock := true } } : Region).poison.any = true) := by decide +kernel

/-- RegionCommandAnswered: the five actions, in RUN and in CONTAINED, and the refusal reasons. -/
theorem test_met_region_command :
    [Instr.regionCommandOnline .A h0 255, .regionCommandOffline .A h0 1, .regionCommandPark .A h0 1,
     .regionCommandUnpark .A h0 1, .regionCommandTrain .A h0 1].all
      (fun c => admitted (offer ready c) c && admitted (offer held c) c) = true ∧
    ready.mode ≠ .contained ∧ held.mode = .contained ∧ (∀ e ∈ [Status.busy, .busy], e = .busy) ∧
    (∀ e ∈ [Status.notTrained], e = .notTrained) ∧
    (¬(∀ e ∈ [Status.busy, .notTrained], e = .busy) ∧ ¬(∀ e ∈ [Status.busy, .notTrained], e = .notTrained)) := by
  decide +kernel

/-- OnlineParkUnparkTable, OfflineActionTable: a region of every state, trained and not, with a burst in flight and none; a
training that holds the inputs with no region waiting and with one, and one that waits. -/
theorem test_met_region_actions :
    [RegionState.offline, .training, .settling, .online, .quiescing, .parked, .halted].all
      (fun x => ((withRegion (inState x)).region 0).state == x && (inState x).trained &&
        ({ inState x with trained := false }).clock.sync && !(inState x).inFlight && (flying x (burst true)).inFlight) =
      true ∧
    (let s := { withRegion (inState .training) with holder := some 0 }
     s.holder = some 0 ∧ s.waiting = [] ∧ { s with waiting := [2] }.waiting = 2 :: [] ∧
     { s with holder := some 2, waiting := [0] }.holder ≠ some 0) := by decide +kernel

/-- TrainActionTable: a SYNC region OFFLINE with no burst, with an abandoned one, and with the inputs held. -/
theorem test_met_train :
    let s := withRegion (inState .offline)
    (s.region 0).state = .offline ∧ (s.region 0).clock.sync = true ∧ (s.region 0).burst = none ∧ s.holder = none ∧
    s.waiting = [] ∧ { s with holder := some 3 }.holder ≠ none ∧ (flying .offline (burst true)).burst.isSome = true ∧
    Region.reset.clock.sync = false := by decide +kernel

/-- PortControl: both actions; a mask that names port A and one that does not; each item, and both, on a port enabled and
disabled; a delivery list of two contexts. -/
theorem test_met_port_control :
    let e := Instr.portControlEnable .A h0 15 15
    let d := Instr.portControlDisable .A h0 1 0
    let f := Instr.portControlDisable .A h0 14 14
    admitted (offer ready e) e = true ∧ admitted (offer ready d) d = true ∧ admitted (offer ready f) f = true ∧
    (1#4).getLsbD (portIndex .A) = true ∧ (14#4).getLsbD (portIndex .A) = false ∧
    (14#4).getLsbD (portIndex .D) = true ∧ (ready.port .D).rxOn = false ∧ (ready.port .D).txOn = false ∧
    (ready.port .A).rxOn = true ∧ (ready.port .A).txOn = true ∧ (15#4).getLsbD (portIndex .D) = true ∧
    (0#4).getLsbD (portIndex .D) = false ∧
    ((ready.setPort .D { ready.port .A with delivery := [3, 5] }).port .D).delivery.Nodup := by decide +kernel

/-- CheckControl, PatrolAlertAndModeRegisters, StatusReadAnswered, SoftResetEffect,
ClearContainmentTakenOrRefused: the requests are admitted in each mode; check codes 3 and 4, intervals 255 and 256. -/
theorem test_met_control :
    [Instr.checkControlEnable .A h0, .checkControlDisable .A h0, .checkControlInject .A h0 0, .checkControlInject .A h0 1,
     .checkControlInject .A h0 2, .checkControlInject .A h0 3, .checkControlInject .A h0 4, .patrolSet .A h0 255,
     .patrolSet .A h0 256, .alertControlEnable .A h0 0x1FF, .alertControlDisable .A h0 1, .alertClear .A h0 1,
     .statusRead .A h0, .start .A h0, .softReset .A h0, .clearContainment .A h0].all
      (fun c => admitted (offer ready c) c && admitted (offer held c) c &&
        admitted (offer { ready with mode := .config } c) c && admitted (offer (checked ready) c) c) = true ∧
    ready.checks = false ∧ (checked ready).checks = true ∧
    (offer (injected ready) (.statusRead .A h0)).nextAcceptance = some (.statusRead .A h0) ∧
    (injected ready).sourceFaults 0 = true ∧ held.poisonedSources = [] ∧ held.poisonedSegments = [] ∧
    (∀ r, (held.region r).poison.any = false) ∧ held.record = some { item := .context 3, prior := .run } ∧
    ({ held with poisonedSources := [1] }).poisonedSources ≠ [] := by decide +kernel

/-- ClearContainmentTakenOrRefused, its exit mapping: a HALTED region of each recorded prior state and action, ASYNC,
trained, and untrained. -/
theorem test_met_halted_exit :
    [RegionState.offline, .training, .settling, .online, .quiescing, .parked].all
      (fun x => [PendingAction.apply, .park, .offline].all fun a =>
        let g := { up with state := .halted, prior := some x, priorAction := some a }
        g.prior == some x && g.priorAction == some a && g.trained && !Region.reset.clock.sync &&
          !{ g with trained := false }.trained) = true := by decide +kernel

/-- BurstCut: a burst length above 0 and a piece of a cut; contexts of both stages, and of both orders. -/
theorem test_met_cut : (cut 4 3 6)[0]? = some ⟨3, 1, false⟩ ∧ (cut 4 3 6)[2]? = some ⟨8, 1, false⟩ ∧
    ({ reading with stage := .link } : Context).stage = .link ∧ reading.stage = .main ∧ reading.wrap = none ∧
    reading.kind = .read ∧ ({ reading with kind := .cursorWrite } : Context).kind = .cursorWrite ∧
    ({ reading with wrap := some ⟨.rotate, 8, 16, 3⟩ } : Context).wrap = some ⟨.rotate, 8, 16, 3⟩ ∧
    ck.sync = true ∧ ({ tm with burst := 8, nativeWrap := true } : TimingGroup).burst = 8 := by decide +kernel

/-- A WRITE of the words 16 and 17 that waits. -/
def writing : Context :=
  { Context.free with
    state := .waiting, stage := .main, kind := .write, region := 0, addr := 16, first := 16, last := 18, length := 2, payload := [1, 2] }

/-- A region with the contexts 0 and 1 in its queue, the turn pointer after the first. -/
def queued : State :=
  ((withRegion { up with queue := [0, 1], turn := 1 }).setCtx 0 { reading with last := 20 }).setCtx 1
    { writing with addr := 20, first := 20, last := 22 }

/-- BurstTurn: a region with a burst on its bus; every entry held; the entry after the pointer eligible, with its next
burst, its record faulted and its region's profile faulted; a patrol read due in RUN, with a sound profile and a faulted
one. -/
theorem test_met_turn :
    (served.region 0).burst ≠ none ∧ (queued.region 0).state = .online ∧ (queued.region 0).burst = none ∧
    (queued.region 0).due = false ∧ (queued.region 0).queue[1]? = some 1 ∧
    (queued.ctx 1).heldBy (queued.ctx 0) = false ∧ queued.contextFaults 1 = false ∧
    (queued.profileFaults 0 { clock := true, timing := true, patrol := false }).any = false ∧
    (queued.ctx 1).pieces.getD ((queued.ctx 1).plan ck tm) = ⟨20, 2, false⟩ :: [] ∧
    ({ writing with first := 17 } : Context).heldBy reading = true ∧
    (injected queued).contextFaults 1 = true ∧
    (let s := (checked queued).setRegion 0 { up with queue := [0, 1], turn := 1, timingOk := false }
     s.contextFaults 1 = false ∧ (s.profileFaults 0 { clock := true, timing := true, patrol := false }).any = true ∧
     (s.profileFaults 0 { clock := true, timing := true, patrol := true }).any = true) ∧
    (let s := withRegion { up with due := true, patrol := pg 0 }
     (s.region 0).due = true ∧ s.mode = .run ∧ (s.region 0).openPatrol.rest = ⟨0, 4, false⟩ :: [] ∧
     (s.profileFaults 0 { clock := true, timing := true, patrol := true }).any = false) := by decide +kernel

/-- WriteBurstStoresWords: a write burst up to the region's last word, with a lane enabled and one not. -/
theorem test_met_write_burst :
    let b := { burst true with addr := 16777212, data := List.replicate 3 (5#32, 15#4) ++ [(7#32, 2#4)] }
    b.write = true ∧ b.wrap = false ∧ b.inRange = true ∧ b.data.length = b.len ∧ b.data[3]? = some (7#32, 2#4) ∧
    (2#4).getLsbD 1 = true ∧ (2#4).getLsbD 0 = false ∧ (15#4 : BitVec 4) = 15#4 ∧ (burst false).write = false ∧
    Memory.wf { cells := [(0, 1#8), (9, 2#8)], parity := [0, 9] } = true ∧
    (∀ k, k < b.len → ∀ l, l < 4 → byteAddr 0 16777211 3 ≠ byteAddr 0 (b.addr + k) l) := by decide +kernel

/-- BurstCompletionAdvances: an abandoned burst, one that waits for the pins, one beyond the region, a MEMORY fault, a burst that is not the last, the
last one, a patrol's, and a region without one; a burst that fills the result buffer's last places. -/
theorem test_met_burst_completion :
    (served.region 0).burst = some (burst false) ∧ (burst false).abandoned = false ∧ (burst false).inRange = true ∧
    served.pins = some 0 ∧ { served with pins := some 1 }.pins ≠ some 0 ∧ served.memoryFault (burst false) ((burst false).samples 0 [] served.mem) = none ∧
    (served.ctx 0).state = .serving ∧ (served.ctx 0).pieces ≠ some [] ∧
    ((served.setCtx 0 { reading with pieces := some [] }).ctx 0).pieces = some [] ∧
    { burst false with abandoned := true }.abandoned = true ∧ { burst false with addr := 16777213 }.inRange = false ∧
    (let b := { burst false with clock := { ck with parityLane := true } }
     (checked served).memoryFault b (b.samples 0 [] served.mem) = some 16) ∧
    { burst false with owner := .patrol }.owner = .patrol ∧ (ready.region 0).burst = none ∧
    (pg 0) = pg 0 ∧ reading.kind ≠ .append ∧ reading.wrap = none ∧
    (let b := { burst false with addr := 18, wrap := true }
     let dev : List BusDeviation := [⟨3, 9, false⟩]
     b.write = false ∧ dev.find? (fun d => d.index == 3) = some ⟨3, 9, false⟩ ∧ (∀ d ∈ dev, d.index ≠ 2) ∧
     (b.samples 0 dev served.mem).map (fun x => x.1) = [18, 19, 16, 17] ∧
     (b.samples 0 dev served.mem)[3]? = some (17, 9, false)) ∧ (burst true).samples 0 [] served.mem = [] ∧
    ({ burst false with addr := 76 }).addr - reading.addr + 4 ≤ reading.result.length := by decide +kernel

/-- AccessEndOfDataRequests: COMPARE_SWAP before its read, after it with the word equal and different, and after its write;
both steps of JOURNAL_RESTART. -/
theorem test_met_access_end :
    let c : Context := { reading with kind := .compareSwap, payload := [5, 6], progress := 1 }
    c.stage = .main ∧ c.kind = .compareSwap ∧ c.progress = 1 ∧ c.result.getD 0 0 ≠ c.payload.getD 0 0 ∧
    ({ c with payload := [0, 6] }).result.getD 0 0 = ({ c with payload := [0, 6] }).payload.getD 0 0 ∧
    ({ c with progress := 0 }).progress = 0 ∧ ({ c with progress := 2 }).progress = 2 ∧
    ({ c with kind := .journalRestart, step := .freshWrite } : Context).step = .freshWrite ∧
    ({ c with kind := .journalRestart, step := .anchorWrite } : Context).step = .anchorWrite := by decide +kernel

/-- An APPEND of 2 words in a journal of 64 words, at a step, with words read and working values. -/
def appending (step : AppendStep) (words : List Word) (w : Working) : Context :=
  { Context.free with
    stage := .main, kind := .append, addr := 16, first := 16, last := 80, payload := [1, 2], step := step, scratch := words,
    result := w.toResult (List.replicate 64 0) }

/-- AppendSteps: anchors 0, 1, 61 and 62; a header that is unsound, one whose block the record just fits, a full last block,
a hop to a good and to a bad link; block sizes 3 and 4; a hopped record that fits and one that does not. -/
theorem test_met_append :
    let z : Working := { c := 1, fill := 0, s := 0, size := 0, next := 0, hopped := false }
    let v : Working := { c := 1, fill := 5, s := 0, size := 8, next := 0, hopped := false }
    (appending .anchorRead [0] z).appendStep = .ends .journalBroken [] ∧
    (appending .anchorRead [61] z).appendStep = (appending .anchorRead [61] z).goOn .headerRead { z with c := 61 } ∧
    (appending .anchorRead [62] z).appendStep = .ends .journalBroken [] ∧
    (appending .headerRead [progressWord 3 9, 3, 0] z).appendStep = .ends .journalBroken [] ∧
    (appending .headerRead [progressWord 5 0, 8, 0] z).appendStep =
      (appending .headerRead [progressWord 5 0, 8, 0] z).goOn .recordWrite v ∧
    (appending .headerRead [progressWord 6 0, 8, 0] z).appendStep = .ends .journalFull [] ∧
    (appending .headerRead [progressWord 6 0, 8, 61] z).appendStep =
      (appending .headerRead [progressWord 6 0, 8, 61] z).goOn .sizeRead { v with fill := 6, next := 61 } ∧
    (appending .headerRead [progressWord 6 0, 8, 62] z).appendStep = .ends .journalBroken [] ∧
    (appending .sizeRead [4] { v with next := 60 }).appendStep =
      (appending .sizeRead [4] { v with next := 60 }).goOn .freshWrite { v with next := 60, size := 4 } ∧
    (appending .sizeRead [3] { v with next := 60 }).appendStep = .ends .journalBroken [] ∧
    (appending .anchorWrite [] { v with next := 9, size := 6 }).appendStep =
      (appending .anchorWrite [] { v with next := 9, size := 6 }).goOn .recordWrite
        { v with c := 9, fill := 3, next := 9, size := 6, hopped := true } ∧
    (appending .anchorWrite [] { v with next := 9, size := 5 }).appendStep = .ends .recordTooLarge [] := by decide +kernel

/-- CursorStepCompletes: both kinds of step and each item size at its last lane. -/
theorem test_met_cursor_completes :
    [(1, 3), (2, 2), (4, 0), (8, 0)].all (fun x =>
      let c := { reading with kind := .cursorWrite, curSize := x.1, curRounded := x.2 }
      c.stage == .main && c.kind == .cursorWrite && c.curSize == x.1 && c.curRounded % 4 == x.2 &&
        { c with kind := .cursorRead }.kind == .cursorRead) = true ∧ 2 % 4 % 2 = 0 := by decide +kernel

/-- A READ of 8 words in stage LINK with its link word fetched. -/
def linked (w0 w1 : Word) : State :=
  ready.setCtx 0
    { reading with stage := .link, result := [w0, w1], opOffset := 1, opLength := 8, ring := 1, pieces := some [] }

/-- A patrol group written while a burst is in flight has fresh parity at once, and a PROFILE_READ then finds no fault in it,
whatever the parity of the group it will replace. -/
theorem test_patrol_write_parity :
    let g := { flying .online (burst false) with patrolOk := false }
    let s := fun g => (checked ready).setRegion 0 g
    g.inFlight = true ∧ (g.storePatrol (pg 4)).written = some (pg 4) ∧ (g.storePatrol (pg 4)).patrol = g.patrol ∧
    ((s g).profileFaults 0 .all).patrol = true ∧ ((s (g.storePatrol (pg 4))).profileFaults 0 .all).any = false ∧
    (g.storePatrol (pg 4)).endBurst.patrol = pg 4 ∧ (g.storePatrol (pg 4)).endBurst.patrolOk = true := by decide +kernel

/-- LinkCompletion: a fault flag set and the largest word without it; a faulted target; a target of each kind; a bounds
failure; targets in an OFFLINE and an ONLINE region; a READ of the order block and one word short of it, and of a segment
whose order block is 1. -/
theorem test_met_link :
    let off := { linked 1 0 with regions := ready.regions.set 0 (inState .offline) }
    ((linked 0x80000005#32 0).ctx 0).stage = .link ∧ ((linked 1 0).ctx 0).kind = .read ∧
    2147483648 ≤ (((linked 0x80000005#32 0).ctx 0).result.getD 0 0).toNat ∧
    (((linked 0x7FFFFFFF#32 0).ctx 0).result.getD 0 0).toNat < 2147483648 ∧
    (injected (linked 1 0)).segmentFaults 1 = true ∧ (linked 1 0).segmentFaults 1 = false ∧
    ((linked 0 0).segment 0).kind = .absent ∧ ((linked 2 0).segment 2).kind = .indirect ∧
    ((linked 3 0).segment 3).kind = .journal ∧ ((linked 1 0).segment 1).kind = .direct ∧
    translateRequest (ready.segment 1) .read 1 (56 + 1) 8 = some .bounds ∧
    translateRequest (ready.segment 1) .read 1 (55 + 1) 8 = none ∧ (off.region 0).state = .offline ∧
    ((linked 1 0).region 0).state = .online ∧
    (let d := { ready.segment 1 with block := 8 }
     8 = d.block ∧ 1 < d.block ∧ ¬(7 = d.block ∧ 1 < d.block) ∧ (reading.resolve d 1 8).wrap.isSome = true ∧
     (reading.resolve d 1 7).wrap = none ∧ (reading.resolve { d with block := 1 } 1 1).wrap = none) ∧
    ({ reading with kind := .write } : Context).kind = .write ∧
    ({ reading with kind := .compareSwap } : Context).kind = .compareSwap := by decide +kernel

/-- CheckPointsAndPatrol: each check disabled and enabled; a patrol read with a burst left and with none; four words equal
to the pattern and words that differ first at the last place. -/
theorem test_met_checks :
    let pr : PatrolRead := { addr := 0, pattern := #v[1, 2, 3, 4], rest := [], words := [1, 2, 3, 4] }
    ready.checks = false ∧ (injected ready).checks = true ∧ (injected ready).inject.memory = true ∧
    (checked ready).inject.memory = false ∧ ck.parityLane = false ∧ (inState .quiescing).state ≠ .online ∧
    ({ up with patrolRead := some pr } : Region).patrolRead = some pr ∧ pr.rest = [] ∧
    { pr with rest := [⟨0, 1, false⟩] }.rest ≠ [] ∧
    (∀ k, k < 4 → pr.words.getD k 0 = pr.pattern.toList.getD k 0) ∧
    (∀ k, k < 3 → ([1, 2, 3, 5] : List Word).getD k 0 = pr.pattern.toList.getD k 0) ∧
    ([1, 2, 3, 5] : List Word).getD 3 0 ≠ pr.pattern.toList.getD 3 0 := by decide +kernel

/-- ReadyTimeoutAndAbandonedEnd: a monitored burst of a context and of a patrol with its last word to move; an abandoned
one; an unmonitored one; a QUIESCING region with each action. -/
theorem test_met_timeout :
    let b := burst true
    (served.region 0).burst = some (burst false) ∧ b.inRange = true ∧ b.timing.monitor = true ∧ 3 < b.len ∧
    served.pins = some 0 ∧ { served with pins := none }.pins ≠ some 0 ∧
    b.abandoned = false ∧ (served.region 0).state = .online ∧ (flying .quiescing b).state = .quiescing ∧
    b.owner = .ctx 0 ∧ { b with owner := .patrol }.owner = .patrol ∧ { b with abandoned := true }.abandoned = true ∧
    ({ b with timing := { tm with monitor := false } } : Burst).timing.monitor = false ∧ b.len ≤ 4 ∧
    ({ flying .quiescing b with action := some .apply, pendingTiming := some tm } : Region).endBurst.pendingTiming = some tm ∧
    ({ flying .quiescing b with action := some .park } : Region).endBurst.action = some .park ∧
    ({ flying .quiescing b with action := some .offline } : Region).endBurst.action = some .offline := by decide +kernel

/-- RegionTimers: a SETTLING region and another; the interval timer stopped, and running in CONFIG and in RUN. -/
theorem test_met_timers : (inState .settling).state = .settling ∧ (inState .online).state ≠ .settling ∧
    ready.patrolInterval = 0 ∧ { ready with patrolInterval := 1 }.patrolInterval ≠ 0 ∧ ready.mode = .run ∧
    { ready with mode := .config }.mode ≠ .run ∧ ({ up with patrol := pg 0 } : Region).patrol.enable = true := by
  decide +kernel

/-- A two-lane training of region 0 that holds the inputs, at step `k` with lane 0 sampled. -/
def training (k : Nat) (a b : Seek) : Training :=
  { k := k, seek := [a, b], samples := [some true, none], awaiting := true }

/-- StrobeTraining: no holder; a sample not taken, one that leaves a lane out, and the last one with every lane FOUND, with
one not FOUND at step 62 and at step 63; a probe that awaits nothing; a waiting list empty and not. -/
theorem test_met_training :
    let g := { inState .training with training := some (training 62 (.found 3) .zero) }
    ready.holder = none ∧ ({ withRegion g with holder := some 0 }).holder = some 0 ∧ (training 62 .one .zero).awaiting = true ∧
    (training 62 .one .zero).samples[0]? ≠ some none ∧ (training 62 .one .zero).samples[1]? = some none ∧
    ({ training 62 .one .zero with samples := [none, none] } : Training).samples.set 1 (some true) = [none, some true] ∧
    List.zipWith (Seek.next 62) [.found 3, .one] [some true, some true] = [3, 62].map Seek.found ∧
    List.zipWith (Seek.next 63) [.found 3, .zero] [some true, some true] = [.found 3, .zero] ∧
    (training 63 .one .zero).k = 63 ∧ (training 62 .one .zero).k ≠ 63 ∧
    ({ training 62 .one .zero with awaiting := false } : Training).awaiting = false ∧ ready.waiting = [] ∧
    ({ ready with waiting := [2, 1] }).waiting = 2 :: [1] := by decide +kernel

/-- EndingHandsOver: a transmitter enabled and disabled; a cursor step and another request; a delivery list whose head meets
a CONTEXT fault, an EGRESS fault and none; a list that can be served and none. -/
theorem test_met_endings :
    let s := served.setPort .A { served.port .A with delivery := [3] }
    (served.port .A).txOn = true ∧ (served.port .B).txOn = false ∧ reading.kind ≠ .cursorRead ∧
    (s.port .A).delivery = 3 :: [] ∧ s.contextFaults 3 = false ∧ s.egressFaults = false ∧
    (injected s).contextFaults 3 = true ∧
    ({ checked s with inject := { Injection.none with egress := true } }).contextFaults 3 = false ∧
    ({ checked s with inject := { Injection.none with egress := true } }).egressFaults = true ∧ s.checks = false ∧
    s.serviceablePort = some .A ∧ served.serviceablePort = none := by
  decide +kernel

/-- ContainmentEntry: RUN and CONTAINED; contexts unfinished and not, on ports with the transmitter enabled and disabled; a
region TRAINING and another; a queue of unfinished contexts; an unfinished cursor step. -/
theorem test_met_containment : served.mode ≠ .contained ∧ held.mode = .contained ∧ (served.ctx 0).state = .serving ∧
    (served.ctx 1).state = .free ∧ (served.port (served.ctx 0).port).txOn = true ∧ (served.port .B).txOn = false ∧
    (served.region 0).state ≠ .training ∧ (inState .training).state = .training ∧
    (∀ i ∈ (served.region 0).queue, (served.ctx i).state = .serving ∧ (served.ctx i).region = 0) ∧
    (served.region 0).queue = [0] ∧ (served.region 0).turn ≤ (served.region 0).queue.length ∧
    ((served.setCtx 0 { reading with kind := .cursorRead }).ctx 0).kind = .cursorRead ∧
    ∀ i, (served.ctx i).kind ≠ .cursorRead := by decide +kernel

/-- EventEnd: pins held by a burst, free with none on a bus, and free with one. -/
theorem test_met_pins : served.rounds.pins = some 0 ∧ (served.region 0).burst = some (burst false) ∧
    ready.rounds.pins = none ∧ (∀ r, (ready.rounds.region r).burst = none) ∧
    { served with pins := none }.rounds.pins = none ∧
    ({ served with pins := none }.rounds.region 0).burst.isSome = true := by decide +kernel

/-- EventEnd: the checks disabled; a flag raised with its kind enabled and not; a target with room for one frame and
without, with a TABLE and an EGRESS fault. -/
theorem test_met_event_end :
    let s := { ready with raised := 1#64, alertMask := 1#9 }
    let tight := fun (n : Nat) => ready.setPort .A { ready.port .A with egress := List.replicate n [1] }
    ready.checks = false ∧ s.serveAll.raised &&& enabledFlags s.serveAll.alertMask ≠ 0 ∧
    ready.serveAll.raised &&& enabledFlags ready.serveAll.alertMask = 0 ∧ (ready.source 0).valid = true ∧
    (ready.source 0).alertTarget = true ∧ (ready.port .A).txOn = true ∧ ((tight 14).port .A).egress.length + 2 ≤ 16 ∧
    ¬((tight 15).port .A).egress.length + 2 ≤ 16 ∧ (injected ready).sourceFaults 0 = true ∧
    ready.sourceFaults 0 = false ∧
    ({ checked ready with inject := { Injection.none with egress := true } }).egressFaults = true := by decide +kernel

/-- One round of alert offers, as EventEnd has it. -/
def round (v : State) : State := (List.finRange 64).foldl State.offerTo { v with raised := 0 }

/-- A flag of an enabled kind has been raised. -/
def due (v : State) : Bool := v.raised &&& enabledFlags v.alertMask != 0

/-- EventEnd, with the checks enabled: one round for CONTAINED itself; a second one where a TABLE injection is met in the
first; a third where an EGRESS injection is met in the second; and a round whose second frame is assembled after an EGRESS
fault took the first. -/
theorem test_met_rounds :
    let s := fun (i : Injection) => { checked ready with inject := i, raised := 16#64, alerts := 16#64, alertMask := 0x1FF }
    let one := ({ held with checks := true, raised := 1#64, alerts := 1#64, alertMask := 0x1FF } : State).serveAll
    let two := (s { Injection.none with table := true }).serveAll
    let three := (s { Injection.none with table := true, egress := true }).serveAll
    due one = true ∧ due (round one) = false ∧ ((round one).port .A).egress = [alertFrame 0 1#64] ∧
    due two = true ∧ due (round two) = true ∧ due (round (round two)) = false ∧
    ((round (round two)).port .A).egress = [alertFrame 0 17#64] ∧
    due three = true ∧ due (round three) = true ∧ due (round (round three)) = true ∧
    ((round (round (round three))).port .A).egress = [alertFrame 0 19#64] ∧
    (let both := ((s { Injection.none with egress := true }).setSource 1 (s Injection.none).sources[0]).serveAll
     due both = true ∧ ((round both).port .A).egress = [alertFrame 1 17#64]) := by decide +kernel

/-- WrappedOrders: blocks of 4, 8 and 16 with the last start position, and the words of a block arriving in some order. -/
theorem test_met_wrapped :
    ([(4, 3), (8, 7), (16, 15)].all fun x => decide (x.2 < x.1)) = true ∧
    ([(19, 3#32), (16, 0#32), (17, 1#32), (18, 2#32)] : List (Nat × Word)).Perm
      ((List.range 4).map fun p => (16 + p, word p)) ∧
    ({ reading with wrap := some ⟨.rotate, 4, 16, 3⟩, length := 4 } : Context).result.length = 64 := by decide +kernel

/-- UnchangedByOtherCommands: a step that answers a next state, of a command that moves no word and is not the reset. -/
theorem test_met_unchanged : answers (exec (.settleExpiry 1) ready) (fun _ => true) = true ∧
    (Instr.settleExpiry 1).touchesMemory = false ∧ Instr.settleExpiry 1 ≠ .deviceReset ∧
    (Instr.settleExpiry 1).acceptPort = none := by decide +kernel

/-- MemoryCanonicalKept: a write burst that completes on a memory with bytes listed. -/
theorem test_met_memory :
    let s := { withRegion (flying .online (burst true)) with
      pins := some 0, mem := { cells := [(64, 9#8), (100, 1#8)], parity := [] }, pending := [.burstCompletion 0 []] }
    s.mem.wf = true ∧ answers (step s) (fun t => t.mem.wf && t.mem.readWord 0 16 == 5) = true := by decide +kernel

/-- ContainmentKept: the contained state is one, and steps. -/
theorem test_met_contained : ContainmentInv held ∧ answers (step held) (fun _ => true) = true :=
  ⟨{ fail := by decide +kernel, recorded := by decide +kernel, prior := (by rintro c ⟨⟩; decide),
     poison := by decide +kernel, halted := by decide +kernel, quiet := (by intro _; unfold Region.quiet; decide +kernel),
     finished := by decide +kernel, inputs := by decide +kernel }, by decide +kernel⟩

/-- A READ whose burst is in flight, counted for its source and in the queue. -/
def inService : State := served.setCount 0 1

/-- PoolKept: with a context in service and its burst in flight the pool is consistent, and steps. -/
theorem test_met_pool : ContainmentInv inService ∧ PoolInv inService ∧ answers (step inService) (fun _ => true) = true := by
  refine ⟨{ fail := by decide +kernel, recorded := by decide +kernel, prior := (by rintro c ⟨⟩),
            poison := by decide +kernel, halted := by decide +kernel, quiet := (by intro h; exact absurd h (by decide +kernel)),
            finished := by decide +kernel, inputs := by decide +kernel },
          { queueOf := by unfold Context.queued; decide +kernel, inQueue := by unfold Context.queued; decide +kernel,
            queueOnce := by decide +kernel, pointer := by decide +kernel, listOf := by rintro (_ | _ | _ | _) <;> decide +kernel,
            onList := by decide +kernel, listOnce := by rintro (_ | _ | _ | _) <;> decide +kernel,
            counted := by decide +kernel, limited := by decide +kernel, flight := by decide +kernel,
            owner := ?_, pinsHeld := by decide +kernel, pinsFree := (by intro h; exact absurd h (by decide +kernel)),
            training := by decide +kernel, marked := ?_, markedOnce := ?_, markedSet := by decide +kernel },
          by decide +kernel⟩
  rotate_left
  · have none' : ∀ i, (inService.ctx i).kind.isCursor = false := by decide +kernel
    have clear : ∀ j k, (inService.cursor j k).inFlight = false := by decide +kernel
    intro j k
    simp [clear, Context.steps, none']
  · have none' : ∀ i, (inService.ctx i).kind.isCursor = false := by decide +kernel
    intro i i' j k h
    simp [Context.steps, none'] at h
  intro r b i hb _ ho
  have key : ∀ r : RegionId, (inService.region r).burst.all
      (fun b => b.owner == .patrol || (r == 0 && b.owner == .ctx 0)) = true := by decide +kernel
  have hk := key r
  rw [hb] at hk
  simp only [Option.all_some, ho, Bool.or_eq_true, beq_iff_eq, reduceCtorEq, Bool.and_eq_true, BurstOwner.ctx.injEq,
    false_or] at hk
  rw [hk.1, hk.2]
  decide +kernel

/-- RangesKept: with a READ's burst in flight at the region's last words, the ranges hold. -/
theorem test_met_ranges : RangeInv inService := by
  have quiet : ∀ r, ((inService.region r).written.isNone && (inService.region r).patrolRead.isNone &&
      (inService.region r).burst.all fun b => b.inRange && !b.write) = true := by decide +kernel
  have first : ∀ i, (inService.ctx i).state = .free ∨ i = 0 := by decide +kernel
  refine { segments := by unfold Descriptor.inRegion; decide +kernel, patrol := by unfold patrolInRegion; decide +kernel,
           written := ?_, patrolRead := ?_, contexts := ?_, bursts := ?_, writes := ?_ }
  · intro r w h
    have := quiet r
    simp [h] at this
  · intro r pr h
    have := quiet r
    simp [h] at this
  · intro i h
    rcases first i with hf | rfl
    · simp [Context.queued, hf] at h
    · exact {
        range := by decide +kernel, link := by decide +kernel,
        cut := by
          rintro l ⟨⟩ pc hpc
          simp only [List.mem_singleton] at hpc
          subst hpc
          exact Or.inl ⟨rfl, by decide +kernel, by decide +kernel⟩
        block := by
          rintro w _ _ ⟨⟩
        linear := by decide +kernel
        journal := by
          intro _ h
          exact absurd h (by decide +kernel) }
  · intro r b h
    have := quiet r
    simp [h] at this
    exact this.2.1
  · intro r b h hw
    have := quiet r
    simp [h, hw] at this

/-- QueueBoundsKept: full queues are within their depths, and a step is answered. -/
theorem test_met_bounds :
    let s := ready.setPort .A { ready.port .A with ingress := List.replicate 8 [1], egress := List.replicate 16 [1] }
    QueueBounds s ∧ answers (step s) (fun _ => true) = true :=
  ⟨by rintro (_ | _ | _ | _) <;> decide +kernel, by decide +kernel⟩

/-- DecodeOfEncode: a well-formed request with a full payload has a frame that is good. -/
theorem test_met_frames :
    let c := Instr.write .B h1 511 3 16777215 64 (List.replicate 64 0xFFFFFFFF#32)
    c.wf = true ∧ c.request = some ⟨.B, h1, 2, true⟩ ∧ (frameWords c).isSome = true := by decide +kernel

end Sys2Proof.Tests
end

/-!
SOURCE_WRITE's checks (R3 to R5). Each check of `sourceWriteRefusal` gets its meaning as a proposition; the refusal does not
see the frame being taken off its queue; and an admitted write that is refused answers that refusal. The self-lockout
statement is then a reading of which check comes first.
-/

namespace Sys2Proof.Machine

/-! ## What the taken frame leaves of the checks -/

theorem takeFrame_count (s : State) (p : Port) (i : SourceId) : (s.takeFrame p).count i = s.count i := by
  unfold State.takeFrame; dsimp only; split <;> rfl

theorem takeFrame_cursor (s : State) (p : Port) (i : SourceId) (k : Fin 2) :
    (s.takeFrame p).cursor i k = s.cursor i k := by
  unfold State.takeFrame; dsimp only; split <;> rfl

theorem takeFrame_locksOut (s : State) (p : Port) (h : Hdr) (i : SourceId) (f : SourceFields) :
    (s.takeFrame p).locksOut h i f = s.locksOut h i f := by
  simp only [State.locksOut, takeFrame_source]

theorem takeFrame_sourceBusy (s : State) (p : Port) (i : SourceId) : (s.takeFrame p).sourceBusy i = s.sourceBusy i := by
  simp only [State.sourceBusy, takeFrame_count, takeFrame_cursor]

/-- The checks read the Source Table, the counts and the cursors alone, so they do not see the frame leave its queue. -/
theorem takeFrame_sourceWriteRefusal (s : State) (p : Port) (h : Hdr) (i : SourceId) (f : SourceFields) :
    (s.takeFrame p).sourceWriteRefusal h i f = s.sourceWriteRefusal h i f := by
  simp only [State.sourceWriteRefusal, takeFrame_locksOut, takeFrame_sourceBusy]

/-! ## The checks of a SOURCE_WRITE -/

/-- The self-lockout check as R5 words it. -/
theorem locksOut_iff (s : State) (h : Hdr) (i : SourceId) (f : SourceFields) :
    s.locksOut h i f = true ↔ i = h.src ∧ (f.valid = false ∨ f.manager = false ∨ f.port ≠ (s.source i).port) := by
  simp [State.locksOut, or_assoc]

/-- The busy check as R4 words it. -/
theorem sourceBusy_iff (s : State) (i : SourceId) :
    s.sourceBusy i = true ↔ 0 < s.count i ∨ (s.cursor i 0).inFlight = true ∨ (s.cursor i 1).inFlight = true := by
  simp [State.sourceBusy, or_assoc]

section
variable {s : State} {h : Hdr} {i : SourceId} {f : SourceFields}

/-- With the limit in range the self-lockout check comes first (R3). -/
theorem sourceWriteRefusal_of_locksOut (h1 : 1 ≤ f.limit) (h8 : f.limit ≤ 8) (hl : s.locksOut h i f = true) :
    s.sourceWriteRefusal h i f = some .selfLockout := by
  have inRange : ¬(f.limit < 1 ∨ 8 < f.limit) := by omega
  rw [State.sourceWriteRefusal, if_neg inRange, if_pos hl]

/-- With the limit in range and no self-lockout the busy check decides (R3). -/
theorem sourceWriteRefusal_of_not_locksOut (h1 : 1 ≤ f.limit) (h8 : f.limit ≤ 8) (hl : ¬s.locksOut h i f = true) :
    s.sourceWriteRefusal h i f = if s.sourceBusy i then some .busy else none := by
  have inRange : ¬(f.limit < 1 ∨ 8 < f.limit) := by omega
  rw [State.sourceWriteRefusal, if_neg inRange, if_neg hl]

/-- No check but the self-lockout check answers SELF_LOCKOUT. -/
theorem sourceWriteRefusal_selfLockout_iff (h1 : 1 ≤ f.limit) (h8 : f.limit ≤ 8) :
    s.sourceWriteRefusal h i f = some .selfLockout ↔ s.locksOut h i f = true := by
  refine ⟨fun refused => ?_, sourceWriteRefusal_of_locksOut h1 h8⟩
  by_contra hl
  rw [sourceWriteRefusal_of_not_locksOut h1 h8 hl] at refused
  cases busy : s.sourceBusy i <;> simp [busy] at refused

end

/-! ## An admitted SOURCE_WRITE that is refused -/

theorem exec_sourceWrite (p : Port) (h : Hdr) (idx : Nat) (f : SourceFields) (s : State) :
    exec (.sourceWrite p h idx f) s = execSourceWrite p h idx f s := rfl

theorem sourceIndex_val (i : SourceId) : sourceIndex i.val = some i := dif_pos i.isLt

/-- The write's refusal is its response, and the frame leaving its queue is all else that changes before the event ends. -/
theorem exec_sourceWrite_refused {p : Port} {h : Hdr} {i : SourceId} {f : SourceFields} {s : State} {st : Status}
    (admitted : s.admits (.sourceWrite p h i.val f) p h) (refused : s.sourceWriteRefusal h i f = some st) :
    exec (.sourceWrite p h i.val f) s = .next ((s.takeFrame p).respond p h 1 st []).finish := by
  obtain ⟨⟨next, noFault, valid, bound⟩, manager⟩ := admitted
  rw [← takeFrame_sourceFaults s p] at noFault
  rw [← takeFrame_source s p] at valid bound manager
  rw [← takeFrame_sourceWriteRefusal s p] at refused
  rw [exec_sourceWrite, execSourceWrite, accept_next _ _ next, acceptManage_admitted _ _ _ _ _ noFault valid bound manager]
  simp only [sourceIndex_val, refused]

/-- Settles O18: the lockout check stands before the busy check and is the only one that answers SELF_LOCKOUT. -/
theorem sourceWriteSelfLockout : Obligations.SourceWriteSelfLockout := by
  intro p h i f s admitted h1 h8
  dsimp only
  rw [← locksOut_iff, ← sourceBusy_iff]
  refine ⟨fun locks => ?_, sourceWriteRefusal_selfLockout_iff h1 h8, fun noLock busy => ?_⟩
  · exact exec_sourceWrite_refused admitted (sourceWriteRefusal_of_locksOut h1 h8 locks)
  · have refused : s.sourceWriteRefusal h i f = some .busy := by
      rw [sourceWriteRefusal_of_not_locksOut h1 h8 noLock, if_pos busy]
    exact exec_sourceWrite_refused admitted refused

end Sys2Proof.Machine

/-!
Wrapped reads (R75, R76). `Wrap.position` sends a word of the block to its response position. `Wrap.blockPosition` is the map
back, and the two are inverse to each other on a block whose length is a power of two. A burst's words are placed one after
another, each at its own position, so where the words of the whole block arrive, in any order, the response reads the block
through `Wrap.blockPosition`.
-/

namespace Sys2Proof.Machine

/-! ## The block position of each response position -/

/-- The block position of the word at response position `k` (R75, R76). -/
def Wrap.blockPosition (w : Wrap) (k : Nat) : Nat :=
  match w.order with
  | .rotate => (w.start + k) % w.block
  | .interchange => w.start ^^^ k

section
variable {w : Wrap}

theorem blockPosition_rotate (ho : w.order = .rotate) (k : Nat) : w.blockPosition k = (w.start + k) % w.block := by
  simp [Wrap.blockPosition, ho]

theorem blockPosition_interchange (ho : w.order = .interchange) (k : Nat) : w.blockPosition k = w.start ^^^ k := by
  simp [Wrap.blockPosition, ho]

theorem position_rotate (ho : w.order = .rotate) (p : Nat) :
    w.position (w.base + p) = (p + w.block - w.start) % w.block := by
  simp [Wrap.position, ho]

theorem position_interchange (ho : w.order = .interchange) (p : Nat) : w.position (w.base + p) = p ^^^ w.start := by
  simp [Wrap.position, ho]

theorem blockPosition_zero (hj : w.start < w.block) : w.blockPosition 0 = w.start := by
  cases ho : w.order with
  | rotate => rw [blockPosition_rotate ho, Nat.add_zero, Nat.mod_eq_of_lt hj]
  | interchange => rw [blockPosition_interchange ho, Nat.xor_zero]

theorem blockPosition_of_start_zero {k : Nat} (h0 : w.start = 0) (hk : k < w.block) : w.blockPosition k = k := by
  cases ho : w.order with
  | rotate => rw [blockPosition_rotate ho, h0, Nat.zero_add, Nat.mod_eq_of_lt hk]
  | interchange => rw [blockPosition_interchange ho, h0, Nat.zero_xor]

theorem position_blockPosition {k : Nat} (hj : w.start < w.block) (hk : k < w.block) :
    w.position (w.base + w.blockPosition k) = k := by
  cases ho : w.order with
  | rotate =>
    rw [position_rotate ho, blockPosition_rotate ho, Nat.add_sub_assoc hj.le, Nat.mod_add_mod,
      show w.start + k + (w.block - w.start) = k + w.block by omega, Nat.add_mod_right, Nat.mod_eq_of_lt hk]
  | interchange => rw [position_interchange ho, blockPosition_interchange ho, Nat.xor_comm w.start, Nat.xor_xor_cancel_right]

theorem blockPosition_position {p : Nat} (hj : w.start < w.block) (hp : p < w.block) :
    w.blockPosition (w.position (w.base + p)) = p := by
  cases ho : w.order with
  | rotate =>
    rw [position_rotate ho, blockPosition_rotate ho, Nat.add_mod_mod,
      show w.start + (p + w.block - w.start) = p + w.block by omega, Nat.add_mod_right, Nat.mod_eq_of_lt hp]
  | interchange => rw [position_interchange ho, blockPosition_interchange ho, Nat.xor_comm p, Nat.xor_xor_cancel_left]

/-- The lengths of an order block that wraps (Table 1-2) are powers of two. -/
theorem block_eq_two_pow (hb : w.block = 4 ∨ w.block = 8 ∨ w.block = 16) : ∃ n, w.block = 2 ^ n := by
  obtain h | h | h := hb
  exacts [⟨2, h⟩, ⟨3, h⟩, ⟨4, h⟩]

/-- INTERCHANGE stays in the block, whose length is a power of two. -/
theorem start_xor_lt {n k : Nat} (hn : w.block = 2 ^ n) (hj : w.start < w.block) (hk : k < w.block) :
    w.start ^^^ k < w.block := by
  rw [hn] at hj hk ⊢
  exact Nat.xor_lt_two_pow hj hk

theorem blockPosition_lt {n k : Nat} (hn : w.block = 2 ^ n) (hj : w.start < w.block) (hk : k < w.block) :
    w.blockPosition k < w.block := by
  cases ho : w.order with
  | rotate => exact blockPosition_rotate ho k ▸ Nat.mod_lt _ (by omega)
  | interchange => exact blockPosition_interchange ho k ▸ start_xor_lt hn hj hk

end

/-- INTERCHANGE keeps aligned groups: numbers that agree above their lowest `i` bits agree there after it. -/
theorem xor_div_two_pow_congr {i k k' : Nat} (j : Nat) (h : k / 2 ^ i = k' / 2 ^ i) :
    (j ^^^ k) / 2 ^ i = (j ^^^ k') / 2 ^ i := by
  rw [Nat.xor_div_two_pow, Nat.xor_div_two_pow, h]

/-! ## Words placed one after another -/

section
variable {α β : Type*} (pos : α → Nat)

theorem length_foldl_set (ws : List (α × β)) (l : List β) :
    (ws.foldl (fun l w => l.set (pos w.1) w.2) l).length = l.length := by
  induction ws generalizing l with
  | nil => rfl
  | cons w ws ih => rw [List.foldl_cons, ih, List.length_set]

/-- Where all that is placed at `k` is `x`, and something is, `k` holds `x`: the last word placed there decides. -/
theorem getElem?_foldl_set {ws : List (α × β)} {l : List β} {k : Nat} {x : β} (hk : k < l.length)
    (placed : ∃ w ∈ ws, pos w.1 = k) (same : ∀ w ∈ ws, pos w.1 = k → w.2 = x) :
    (ws.foldl (fun l w => l.set (pos w.1) w.2) l)[k]? = some x := by
  induction ws using List.reverseRecOn with
  | nil => simp at placed
  | append_singleton ws w ih =>
    rw [List.foldl_concat]
    by_cases hw : pos w.1 = k
    · have hx : w.2 = x := same w (by simp) hw
      rw [hw, hx, List.getElem?_set_self (by rwa [length_foldl_set])]
    · have earlier : ∃ v ∈ ws, pos v.1 = k := by
        obtain ⟨v, hv, hvk⟩ := placed
        obtain hv | hv := List.mem_append.mp hv
        · exact ⟨v, hv, hvk⟩
        · exact absurd (List.mem_singleton.mp hv ▸ hvk) hw
      rw [List.getElem?_set_ne hw]
      exact ih earlier fun v hv => same v (List.mem_append_left _ hv)

end

/-! ## The response of a wrapped read -/

section
variable {c : Context} {w : Wrap} {ws : List (Nat × Word)}

/-- A wrapped read places each word at its response position in the block (R28, R77). -/
theorem place_result_of_wrapped_read (hc : c.kind = .read) (hw : c.wrap = some w) :
    (c.place ws).result = ws.foldl (fun l v => l.set (w.position v.1) v.2) c.result := by
  simp [Context.place, Context.position, hc, hw]

variable {f : Nat → Word}

/-- Each response position holds its word of the block once the whole block has arrived, in any order. -/
theorem place_result_getElem? {n k : Nat} (hn : w.block = 2 ^ n) (hj : w.start < w.block) (hc : c.kind = .read)
    (hw : c.wrap = some w) (room : w.block ≤ c.result.length)
    (whole : ws.Perm ((List.range w.block).map fun p => (w.base + p, f p))) (hk : k < w.block) :
    (c.place ws).result[k]? = some (f (w.blockPosition k)) := by
  have arrived (v : Nat × Word) : v ∈ ws ↔ ∃ p < w.block, (w.base + p, f p) = v := by simp [whole.mem_iff]
  rw [place_result_of_wrapped_read hc hw]
  refine getElem?_foldl_set w.position (hk.trans_le room) ?_ fun v hv hvk => ?_
  · exact ⟨_, (arrived _).mpr ⟨_, blockPosition_lt hn hj hk, rfl⟩, position_blockPosition hj hk⟩
  · obtain ⟨p, hp, rfl⟩ := (arrived v).mp hv
    rw [← hvk, blockPosition_position hj hp]

/-- The response of a wrapped read is the block, read through the order's map. -/
theorem wrapped_response_eq {n : Nat} (hn : w.block = 2 ^ n) (hj : w.start < w.block) (hc : c.kind = .read)
    (hw : c.wrap = some w) (room : w.block ≤ c.result.length)
    (whole : ws.Perm ((List.range w.block).map fun p => (w.base + p, f p))) :
    (c.place ws).result.take w.block = (List.range w.block).map fun k => f (w.blockPosition k) := by
  refine List.ext_getElem? fun k => ?_
  by_cases hk : k < w.block
  · rw [List.getElem?_take_of_lt hk, place_result_getElem? hn hj hc hw room whole hk]
    simp [hk]
  · simp [hk]

end

/-- Settles O52: a response is the block read through `Wrap.blockPosition`, so each clause about it is one about that map. -/
theorem wrappedOrders : Obligations.WrappedOrders := by
  intro w hb hj
  dsimp only
  obtain ⟨n, hn⟩ := block_eq_two_pow hb
  refine ⟨fun f c ws hc hw hlen h64 whole => ?_, fun p _ => ⟨(position_rotate · p), (position_interchange · p)⟩,
    fun k hk => ⟨start_xor_lt hn hj hk, Nat.xor_xor_cancel_left _ _⟩, fun m k k' hm _ _ _ hg => ?_⟩
  · have response : (c.place ws).result.take c.length = (List.range w.block).map fun k => f (w.blockPosition k) :=
      hlen ▸ wrapped_response_eq hn hj hc hw (by omega) whole
    have getD_response (k : Nat) (hk : k < w.block) :
        ((List.range w.block).map fun k => f (w.blockPosition k)).getD k 0 = f (w.blockPosition k) := by
      simp [List.getD_eq_getElem?_getD, hk]
    rw [response]
    refine ⟨by simp, fun k hk ho => ?_, fun k hk ho => ?_, ?_, fun h0 => List.map_congr_left fun k hk => ?_⟩
    · rw [getD_response k hk, blockPosition_rotate ho]
    · rw [getD_response k hk, blockPosition_interchange ho]
    · rw [getD_response 0 (by omega), blockPosition_zero hj]
    · rw [blockPosition_of_start_zero h0 (List.mem_range.mp hk)]
  · obtain ⟨i, rfl⟩ : ∃ i, m = 2 ^ i := by
      obtain h | h | h | h := hm
      exacts [⟨0, h⟩, ⟨1, h⟩, ⟨2, h⟩, ⟨3, h⟩]
    exact xor_div_two_pow_congr w.start hg

end Sys2Proof.Machine

/-!
The commands and their acceptance. One equation for each command says what `exec` runs; the Acceptance Unit's arbiter (R149)
and the frame that leaves its queue are stated once; and a frame that passes its checks runs its body on the state with the
frame taken.
-/

namespace Sys2Proof.Machine

/-! ## The arms of `exec` -/

section
variable (s : State) (p : Port) (h : Hdr)

theorem exec_deviceReset : exec .deviceReset s = execDeviceReset s := rfl
theorem exec_frameArrival (ws : List Word) (ragged : Bool) :
    exec (.frameArrival p ws ragged) s = execFrameArrival p ws ragged s := rfl
theorem exec_linkCredit : exec (.linkCredit p) s = execLinkCredit p s := rfl
theorem exec_partnerCreditRestore (n : Nat) : exec (.partnerCreditRestore p n) s = execPartnerCreditRestore p n s := rfl
theorem exec_frameSent : exec (.frameSent p) s = execFrameSent p s := rfl
theorem exec_undecodableFrame (ws : List Word) : exec (.undecodableFrame p ws) s = execUndecodableFrame p ws s := rfl
theorem exec_read (seg : SegNo) (ring : Ring) (off len : Nat) :
    exec (.read p h seg ring off len) s = execRead p h seg ring off len s := rfl
theorem exec_write (seg : SegNo) (ring : Ring) (off len : Nat) (pl : List Word) :
    exec (.write p h seg ring off len pl) s = execWrite p h seg ring off len pl s := rfl
theorem exec_compareSwap (seg : SegNo) (ring : Ring) (off : Nat) (e n : Word) :
    exec (.compareSwap p h seg ring off e n) s = execCompareSwap p h seg ring off e n s := rfl
theorem exec_append (seg : SegNo) (ring : Ring) (pl : List Word) :
    exec (.append p h seg ring pl) s = execAppend p h seg ring pl s := rfl
theorem exec_journalRestart (seg : SegNo) (ring : Ring) (f : Nat) :
    exec (.journalRestart p h seg ring f) s = execJournalRestart p h seg ring f s := rfl
theorem exec_cursorSet (cur : Fin 2) (seg : SegNo) (ring : Ring) (pos count size : Nat) :
    exec (.cursorSet p h cur seg ring pos count size) s = execCursorSet p h cur seg ring pos count size s := rfl
theorem exec_cursorRead (cur : Fin 2) : exec (.cursorRead p h cur) s = execCursorRead p h cur s := rfl
theorem exec_cursorWrite (cur : Fin 2) (lo hi : Word) :
    exec (.cursorWrite p h cur lo hi) s = execCursorWrite p h cur lo hi s := rfl
theorem exec_cursorQuery (cur : Fin 2) : exec (.cursorQuery p h cur) s = execCursorQuery p h cur s := rfl
theorem exec_sourceRead (idx : Nat) : exec (.sourceRead p h idx) s = execSourceRead p h idx s := rfl
theorem exec_segmentWrite (seg : Nat) (d : SegOperands) :
    exec (.segmentWrite p h seg d) s = execSegmentWrite p h seg d s := rfl
theorem exec_segmentRead (seg : Nat) : exec (.segmentRead p h seg) s = execSegmentRead p h seg s := rfl
theorem exec_profileWriteClock (region : Nat) (g : ClockGroup) :
    exec (.profileWriteClock p h region g) s = execProfileWriteClock p h region g s := rfl
theorem exec_profileWriteTiming (region : Nat) (g : TimingGroup) :
    exec (.profileWriteTiming p h region g) s = execProfileWriteTiming p h region g s := rfl
theorem exec_profileWritePatrol (region : Nat) (g : PatrolGroup) :
    exec (.profileWritePatrol p h region g) s = execProfileWritePatrol p h region g s := rfl
theorem exec_profileRead (region : Nat) : exec (.profileRead p h region) s = execProfileRead p h region s := rfl
theorem exec_regionCommandOnline (mask : BitVec 8) :
    exec (.regionCommandOnline p h mask) s = execRegionCommandOnline p h mask s := rfl
theorem exec_regionCommandOffline (mask : BitVec 8) :
    exec (.regionCommandOffline p h mask) s = execRegionCommandOffline p h mask s := rfl
theorem exec_regionCommandPark (mask : BitVec 8) :
    exec (.regionCommandPark p h mask) s = execRegionCommandPark p h mask s := rfl
theorem exec_regionCommandUnpark (mask : BitVec 8) :
    exec (.regionCommandUnpark p h mask) s = execRegionCommandUnpark p h mask s := rfl
theorem exec_regionCommandTrain (mask : BitVec 8) :
    exec (.regionCommandTrain p h mask) s = execRegionCommandTrain p h mask s := rfl
theorem exec_portControlEnable (rx tx : BitVec 4) :
    exec (.portControlEnable p h rx tx) s = execPortControlEnable p h rx tx s := rfl
theorem exec_portControlDisable (rx tx : BitVec 4) :
    exec (.portControlDisable p h rx tx) s = execPortControlDisable p h rx tx s := rfl
theorem exec_checkControlEnable : exec (.checkControlEnable p h) s = execCheckControlEnable p h s := rfl
theorem exec_checkControlDisable : exec (.checkControlDisable p h) s = execCheckControlDisable p h s := rfl
theorem exec_checkControlInject (check : Nat) :
    exec (.checkControlInject p h check) s = execCheckControlInject p h check s := rfl
theorem exec_patrolSet (interval : Nat) : exec (.patrolSet p h interval) s = execPatrolSet p h interval s := rfl
theorem exec_statusRead : exec (.statusRead p h) s = execStatusRead p h s := rfl
theorem exec_alertControlEnable (kinds : BitVec 9) :
    exec (.alertControlEnable p h kinds) s = execAlertControlEnable p h kinds s := rfl
theorem exec_alertControlDisable (kinds : BitVec 9) :
    exec (.alertControlDisable p h kinds) s = execAlertControlDisable p h kinds s := rfl
theorem exec_alertClear (flags : BitVec 64) : exec (.alertClear p h flags) s = execAlertClear p h flags s := rfl
theorem exec_start : exec (.start p h) s = execStart p h s := rfl
theorem exec_softReset : exec (.softReset p h) s = execSoftReset p h s := rfl
theorem exec_clearContainment : exec (.clearContainment p h) s = execClearContainment p h s := rfl
theorem exec_burstCompletion (r : RegionId) (dev : List BusDeviation) :
    exec (.burstCompletion r dev) s = execBurstCompletion r dev s := rfl
theorem exec_readyTimeout (r : RegionId) (moved : Nat) : exec (.readyTimeout r moved) s = execReadyTimeout r moved s := rfl
theorem exec_abandonedBurstEnd (r : RegionId) (release : Option Nat) :
    exec (.abandonedBurstEnd r release) s = execAbandonedBurstEnd r release s := rfl
theorem exec_settleExpiry (r : RegionId) : exec (.settleExpiry r) s = execSettleExpiry r s := rfl
theorem exec_patrolIntervalExpiry : exec .patrolIntervalExpiry s = execPatrolIntervalExpiry s := rfl
theorem exec_strobeSample (input : Fin 4) (level : Bool) :
    exec (.strobeSample input level) s = execStrobeSample input level s := rfl
theorem exec_stepTimerExpiry : exec .stepTimerExpiry s = execStepTimerExpiry s := rfl

end

/-- Settles O1: the front command's effect is `exec` by the definition of a step. -/
theorem stepRunsFrontCommand : Obligations.StepRunsFrontCommand := by
  intro c rest s h
  simp only [step, h]

theorem step_idle {s : State} (h : s.pending = []) : step s = .next s := by
  simp only [step, h]

/-- What a step keeps is what every command keeps, the queue of commands aside. -/
theorem step_keeps {P : State → Prop} (drop : ∀ s l, P s → P { s with pending := l })
    (run : ∀ c s t, P s → exec c s = .next t → P t) {s t : State} (hs : P s) (h : step s = .next t) : P t := by
  cases hq : s.pending with
  | nil =>
    rw [step_idle hq] at h
    exact Host.Outcome.next.inj h ▸ hs
  | cons c rest => exact run c _ t (drop s rest hs) (stepRunsFrontCommand c rest s hq ▸ h)

/-! ## The arbiter (R149) and the frame taken (R148) -/

theorem qualifies_iff (x : PortState) :
    x.qualifies = true ↔ x.ingress ≠ [] ∧ (x.egress.length < 16 ∨ x.txOn = false) := by
  simp [PortState.qualifies, PortState.freeSlots, Config.egressDepth]

theorem find?_cons_ite {α : Type} (q : α → Bool) (a : α) (l : List α) :
    (a :: l).find? q = if q a then some a else l.find? q := by
  rw [List.find?_cons]
  cases q a <;> rfl

theorem acceptPort_eq (s : State) :
    let p0 := s.accPtr
    let p1 := portAfter p0
    let p2 := portAfter p1
    let p3 := portAfter p2
    s.acceptPort =
      if (s.port p0).qualifies then some p0 else if (s.port p1).qualifies then some p1
      else if (s.port p2).qualifies then some p2 else if (s.port p3).qualifies then some p3 else none := by
  simp only [State.acceptPort, find?_cons_ite, List.find?_nil]

theorem nextAcceptance_iff {s : State} {c : Instr} : s.nextAcceptance = some c ↔
    ∃ p ws rest, s.acceptPort = some p ∧ (s.port p).ingress = ws :: rest ∧ c = frameInstr p ws := by
  simp only [State.nextAcceptance, Option.bind_eq_some_iff, Option.map_eq_some_iff, List.head?_eq_some_iff]
  constructor
  · rintro ⟨p, hp, ws, ⟨rest, hi⟩, rfl⟩
    exact ⟨p, ws, rest, hp, hi, rfl⟩
  · rintro ⟨p, ws, rest, hp, hi, rfl⟩
    exact ⟨p, hp, ws, ⟨rest, hi⟩, rfl⟩

/-- The frame taken changes its port's queue and signals and the acceptance pointer alone. -/
theorem takeFrame_eq (s : State) (p : Port) : s.takeFrame p =
    { s with
      accPtr := portAfter p,
      ports := s.ports.put p
        { s.port p with
          ingress := (s.port p).ingress.tail,
          signals := (s.port p).signals ++ (if (s.port p).rxOn then [.credit] else []) } } := by
  unfold State.takeFrame
  cases p <;> cases on : (s.port _).rxOn <;> simp [State.signal, State.setPort, State.port, Ports.put]

/-- Settles O5: the arbiter, the frame it takes, and the taking, each by its own lemma. -/
theorem acceptanceArbiter : Obligations.AcceptanceArbiter :=
  ⟨qualifies_iff, acceptPort_eq, fun _ _ => nextAcceptance_iff, takeFrame_eq⟩

/-! ## What the frame taken leaves -/

section
variable (s : State) (p : Port)

@[simp] theorem takeFrame_region (r : RegionId) : (s.takeFrame p).region r = s.region r := by rw [takeFrame_eq]; rfl
@[simp] theorem takeFrame_regions : (s.takeFrame p).regions = s.regions := by rw [takeFrame_eq]
@[simp] theorem takeFrame_ctx (i : CtxId) : (s.takeFrame p).ctx i = s.ctx i := by rw [takeFrame_eq]; rfl
@[simp] theorem takeFrame_ctxs : (s.takeFrame p).ctxs = s.ctxs := by rw [takeFrame_eq]
@[simp] theorem takeFrame_counts : (s.takeFrame p).counts = s.counts := by rw [takeFrame_eq]
@[simp] theorem takeFrame_cursors : (s.takeFrame p).cursors = s.cursors := by rw [takeFrame_eq]
@[simp] theorem takeFrame_segment (i : SegNo) : (s.takeFrame p).segment i = s.segment i := by rw [takeFrame_eq]; rfl
@[simp] theorem takeFrame_segmentFaults (i : SegNo) : (s.takeFrame p).segmentFaults i = s.segmentFaults i := by
  rw [takeFrame_eq]; rfl
@[simp] theorem takeFrame_profileFaults (r : RegionId) (g : Groups) :
    (s.takeFrame p).profileFaults r g = s.profileFaults r g := by rw [takeFrame_eq]; rfl
@[simp] theorem takeFrame_freeCtx : (s.takeFrame p).freeCtx = s.freeCtx := by rw [takeFrame_eq]; rfl
@[simp] theorem takeFrame_checks : (s.takeFrame p).checks = s.checks := by rw [takeFrame_eq]
@[simp] theorem takeFrame_inject : (s.takeFrame p).inject = s.inject := by rw [takeFrame_eq]
@[simp] theorem takeFrame_record : (s.takeFrame p).record = s.record := by rw [takeFrame_eq]
@[simp] theorem takeFrame_alerts : (s.takeFrame p).alerts = s.alerts := by rw [takeFrame_eq]
@[simp] theorem takeFrame_alertMask : (s.takeFrame p).alertMask = s.alertMask := by rw [takeFrame_eq]
@[simp] theorem takeFrame_poisonedSources : (s.takeFrame p).poisonedSources = s.poisonedSources := by rw [takeFrame_eq]
@[simp] theorem takeFrame_poisonedSegments : (s.takeFrame p).poisonedSegments = s.poisonedSegments := by
  rw [takeFrame_eq]

@[simp] theorem takeFrame_checkSource (h : Hdr) : (s.takeFrame p).checkSource p h = s.checkSource p h := by
  simp only [State.checkSource, takeFrame_source]

end

/-! ## Frames that pass their checks -/

section
variable {s : State} {c : Instr} {p : Port} {h : Hdr}

/-- A management frame that is admitted runs its body on the state with the frame taken, and the event ends. -/
theorem accept_admitted (admitted : s.admits c p h) (code : Nat) (body : State → State) :
    s.accept c p (fun s => s.acceptManage p h code body) = (body (s.takeFrame p)).finish := by
  obtain ⟨⟨next, noFault, valid, bound⟩, manager⟩ := admitted
  rw [accept_next _ _ next, acceptManage_admitted _ _ _ _ _ (by rwa [takeFrame_sourceFaults])
    (by rwa [takeFrame_source]) (by rwa [takeFrame_source]) (by rwa [takeFrame_source])]

/-- A data frame that passes checks 1 to 4 runs its body on the state with the frame taken, and the event ends. -/
theorem accept_passed (passed : s.passesData c p h) (code : Nat) (body : State → State) :
    s.accept c p (fun s => s.acceptData p h code body) = (body (s.takeFrame p)).finish := by
  obtain ⟨⟨next, noFault, valid, bound⟩, run⟩ := passed
  rw [accept_next _ _ next, acceptData_passed _ _ _ _ _ (by rwa [takeFrame_sourceFaults])
    (by rwa [takeFrame_source]) (by rwa [takeFrame_source]) (by rwa [takeFrame_mode])]

end

end Sys2Proof.Machine

/-!
What the events leave of the ports, the profiles and the mode. `Calm free s t` says that from `s` to `t` no port changed but on
its egress side, and no egress queue grew over its depth; that every clock group stayed, every timing group too unless `free`,
and every patrol group unless the written one entered (R88); and that the mode stayed or became CONTAINED. It is reflexive and
transitive and every shared operation keeps it, which is the frame of the commands (R88, R142, R150) and the bound of the
queues.
-/

namespace Sys2Proof.Machine

/-! ## The relation -/

/-- A port changed on its egress side at most, and its egress queue did not grow over its depth. -/
structure PortState.Calm (x y : PortState) : Prop where
  rxOn : y.rxOn = x.rxOn
  txOn : y.txOn = x.txOn
  ingress : y.ingress = x.ingress
  signals : y.signals = x.signals
  egress : x.egress.length ≤ Config.egressDepth → y.egress.length ≤ Config.egressDepth

/-- The patrol group stayed with the written one, or the written one entered (R88). -/
def Region.PatrolMoves (g k : Region) : Prop :=
  k.patrol = g.patrol ∧ k.written = g.written ∨ g.written = some k.patrol ∧ k.written = none

/-- A region's profile stayed, but for its timing group where `free`, and for a written patrol group that entered. -/
structure Region.Calm (free : Bool) (g k : Region) : Prop where
  clock : k.clock = g.clock
  timing : free = false → k.timing = g.timing
  patrol : g.PatrolMoves k

/-- Ports, profiles and mode changed as the shared operations change them. -/
structure Calm (free : Bool) (s t : State) : Prop where
  ports : ∀ p, (s.port p).Calm (t.port p)
  regions : ∀ r, (s.region r).Calm free (t.region r)
  mode : t.mode = s.mode ∨ t.mode = .contained

theorem PortState.Calm.refl (x : PortState) : x.Calm x := ⟨rfl, rfl, rfl, rfl, id⟩

theorem PortState.Calm.trans {x y z : PortState} (a : x.Calm y) (b : y.Calm z) : x.Calm z :=
  ⟨b.rxOn.trans a.rxOn, b.txOn.trans a.txOn, b.ingress.trans a.ingress, b.signals.trans a.signals, b.egress ∘ a.egress⟩

theorem Region.Calm.refl (free : Bool) (g : Region) : g.Calm free g := ⟨rfl, fun _ => rfl, .inl ⟨rfl, rfl⟩⟩

theorem Region.PatrolMoves.trans {g k l : Region} (a : g.PatrolMoves k) (b : k.PatrolMoves l) : g.PatrolMoves l := by
  obtain ⟨hp, hw⟩ | ⟨hp, hw⟩ := a
  · obtain ⟨kp, kw⟩ | ⟨kp, kw⟩ := b
    · exact .inl ⟨kp.trans hp, kw.trans hw⟩
    · exact .inr ⟨hw ▸ kp, kw⟩
  · obtain ⟨kp, kw⟩ | ⟨kp, kw⟩ := b
    · exact .inr ⟨kp ▸ hp, kw.trans hw⟩
    · rw [hw] at kp
      cases kp

theorem Region.Calm.trans {free : Bool} {g k l : Region} (a : g.Calm free k) (b : k.Calm free l) : g.Calm free l :=
  ⟨b.clock.trans a.clock, fun h => (b.timing h).trans (a.timing h), a.patrol.trans b.patrol⟩

theorem Calm.refl (free : Bool) (s : State) : Calm free s s := ⟨fun _ => .refl _, fun _ => .refl free _, .inl rfl⟩

theorem Calm.trans {free : Bool} {s t u : State} (a : Calm free s t) (b : Calm free t u) : Calm free s u := by
  refine ⟨fun p => (a.ports p).trans (b.ports p), fun r => (a.regions r).trans (b.regions r), ?_⟩
  obtain h | h := b.mode
  · exact a.mode.imp h.trans h.trans
  · exact .inr h

/-- Where no port, no region and no mode changes there is nothing to show. -/
theorem Calm.of_eq {free : Bool} {s t : State} (hp : t.ports = s.ports) (hr : t.regions = s.regions)
    (hm : t.mode = s.mode) : Calm free s t := by
  refine ⟨fun p => ?_, fun r => ?_, .inl hm⟩
  · rw [show t.port p = s.port p by cases p <;> simp only [State.port, hp]]
    exact .refl _
  · rw [show t.region r = s.region r by simp only [State.region, hr]]
    exact .refl free _

section
variable {free : Bool}

theorem calm_foldl {α : Type} (f : State → α → State) (h : ∀ s a, Calm free s (f s a)) (l : List α) (s : State) :
    Calm free s (l.foldl f s) := by
  induction l generalizing s with
  | nil => exact .refl free s
  | cons a l ih => exact (h s a).trans (ih (f s a))

/-! ## Updates -/

theorem calm_setPort {s : State} {p : Port} {v : PortState} (h : (s.port p).Calm v) : Calm free s (s.setPort p v) := by
  refine ⟨fun q => ?_, fun r => .refl free _, .inl rfl⟩
  by_cases hq : q = p
  · subst hq
    rwa [port_setPort]
  · rw [port_setPort_ne s v hq]
    exact .refl _

theorem calm_setRegion {s : State} {r : RegionId} {g : Region} (h : (s.region r).Calm free g) :
    Calm free s (s.setRegion r g) := by
  refine ⟨fun p => .refl _, fun x => ?_, .inl rfl⟩
  by_cases hx : x = r
  · subst hx
    rwa [region_setRegion]
  · rw [region_setRegion_ne s g hx]
    exact .refl free _

theorem calm_setCtx (s : State) (i : CtxId) (c : Context) : Calm free s (s.setCtx i c) := .of_eq rfl rfl rfl

theorem calm_setCount (s : State) (i : SourceId) (n : Nat) : Calm free s (s.setCount i n) := .of_eq rfl rfl rfl

theorem calm_setCursor (s : State) (i : SourceId) (k : Fin 2) (c : Cursor) : Calm free s (s.setCursor i k c) :=
  .of_eq rfl rfl rfl

theorem calm_raise (s : State) (f : AlertFlag) : Calm free s (s.raise f) := .of_eq rfl rfl rfl

/-! ## Ports -/

theorem PortState.trySend_calm (x : PortState) : x.Calm x.trySend := by
  unfold PortState.trySend
  split
  · exact .refl x
  · rename_i f rest he
    split
    · exact ⟨rfl, rfl, rfl, rfl, fun h => by simp only [he, List.length_cons] at h ⊢; omega⟩
    · exact .refl x

theorem calm_trySend (s : State) (p : Port) : Calm free s (s.trySend p) := calm_setPort (PortState.trySend_calm _)

/-- A frame that joins a queue with a free slot stays within the depth. -/
theorem calm_join {s : State} {p : Port} (f : List Word) (room : (s.port p).egress.length < Config.egressDepth) :
    Calm free s (s.join p f) := by
  refine (calm_setPort ?_).trans (calm_trySend _ p)
  exact ⟨rfl, rfl, rfl, rfl, fun _ => by rw [List.length_append, List.length_singleton]; omega⟩

/-! ## Endings -/

theorem calm_leaveQueue (s : State) (r : RegionId) (i : CtxId) : Calm free s (s.leaveQueue r i) := by
  refine calm_setRegion ?_
  unfold Region.leave
  split
  · exact ⟨rfl, fun _ => rfl, .inl ⟨rfl, rfl⟩⟩
  · exact .refl free _

theorem calm_enterQueue (s : State) (r : RegionId) (i : CtxId) : Calm free s (s.enterQueue r i) :=
  calm_setRegion ⟨rfl, fun _ => rfl, .inl ⟨rfl, rfl⟩⟩

theorem calm_release (s : State) (i : CtxId) : Calm free s (s.release i) := .of_eq rfl rfl rfl

theorem calm_clearMarker (s : State) (c : Context) : Calm free s (s.clearMarker c) := by
  unfold State.clearMarker
  split <;> exact .of_eq rfl rfl rfl

theorem calm_handOver (s : State) (p : Port) (i : CtxId) : Calm free s (s.handOver p i) := by
  unfold State.handOver
  split
  · exact calm_setPort ⟨rfl, rfl, rfl, rfl, id⟩
  · exact calm_release s i

theorem calm_endCtx (s : State) (i : CtxId) (st : Status) (ws : List Word) : Calm free s (s.endCtx i st ws) :=
  (((calm_leaveQueue s _ i).trans (calm_clearMarker _ _)).trans (calm_setCtx _ i _)).trans (calm_handOver _ _ i)

theorem calm_endAll (s : State) (l : List CtxId) (st : Status) : Calm free s (s.endAll l st) :=
  calm_foldl _ (fun s i => calm_endCtx s i st []) l s

theorem calm_enterOffline (s : State) (r : RegionId) : Calm free s (s.enterOffline r) :=
  (calm_endAll s _ _).trans (calm_setRegion ⟨rfl, fun _ => rfl, .inl ⟨rfl, rfl⟩⟩)

/-! ## Faults -/

theorem Region.admitPatrol_calm (g : Region) : g.Calm free g.admitPatrol := by
  unfold Region.admitPatrol
  split
  · rename_i w hw
    split
    · exact .refl free g
    · exact ⟨rfl, fun _ => rfl, .inr ⟨hw, rfl⟩⟩
  · exact .refl free g

/-- With no burst in flight a written patrol group enters the profile (R88). -/
theorem Region.admitPatrol_of_quiet {g : Region} (h : g.inFlight = false) :
    g.admitPatrol = { g with patrol := g.written.getD g.patrol, written := none } := by
  cases g with
  | mk _ _ _ written =>
    cases written with
    | none => rfl
    | some w => simp [Region.admitPatrol, h]

/-- An abandoned burst is not in flight (R66), so that a written patrol group enters the profile. -/
theorem Region.abandonBurst_eq (g : Region) :
    g.abandonBurst =
      { g with burst := g.burst.map Burst.abandon, patrol := g.written.getD g.patrol, written := none } := by
  refine admitPatrol_of_quiet ?_
  cases hb : g.burst <;> simp [Region.inFlight, Burst.abandon]

theorem Region.patrol_entered (g : Region) :
    g.written.getD g.patrol = g.patrol ∧ none = g.written ∨ g.written = some (g.written.getD g.patrol) := by
  cases g.written <;> simp

theorem Region.abandonBurst_calm (g : Region) : g.Calm free g.abandonBurst := by
  rw [abandonBurst_eq]
  exact ⟨rfl, fun _ => rfl, g.patrol_entered.imp_right (⟨·, rfl⟩)⟩

/-- The halt of containment (R100): the state and action are recorded, the burst abandoned, a training abandoned untrained. -/
theorem Region.halt_eq (g : Region) :
    g.halt =
      { g with
        state := .halted, prior := some g.state, priorAction := g.action, action := none, pendingTiming := none,
        settle := none, due := false, patrolRead := none, training := none, burst := g.burst.map Burst.abandon,
        patrol := g.written.getD g.patrol, written := none,
        trained := if g.state = .training then false else g.trained,
        delays := if g.state = .training then List.replicate (busLanes g.clock) 0 else g.delays } := by
  unfold Region.halt
  dsimp only
  rw [abandonBurst_eq]
  split <;> rfl

theorem Region.halt_calm (g : Region) : g.Calm free g.halt := by
  rw [halt_eq]
  exact ⟨rfl, fun _ => rfl, g.patrol_entered.imp_right (⟨·, rfl⟩)⟩

theorem region_map (s : State) (f : Region → Region) (r : RegionId) :
    { s with regions := s.regions.map f }.region r = f (s.region r) := by
  simp [State.region]

theorem calm_poisonEntry (s : State) (f : FaultItem) : Calm free s (s.poisonEntry f) := by
  cases f with
  | profile r g => exact calm_setRegion ⟨rfl, fun _ => rfl, .inl ⟨rfl, rfl⟩⟩
  | _ => exact .of_eq rfl rfl rfl

theorem calm_contain (s : State) (f : FaultItem) : Calm free s (s.contain f) := by
  have entered : Calm free s { s with record := some { item := f, prior := s.mode }, mode := .contained, failPin := true } :=
    ⟨fun _ => .refl _, fun _ => .refl free _, .inr rfl⟩
  have halted (u : State) : Calm free u { u with regions := u.regions.map Region.halt, holder := none, waiting := [] } :=
    ⟨fun _ => .refl _, fun r => region_map u Region.halt r ▸ Region.halt_calm _, .inl rfl⟩
  exact (((entered.trans (calm_poisonEntry _ f)).trans (halted _)).trans (calm_endAll _ _ _)).trans (calm_raise _ _)

theorem calm_takeFault (s : State) (f : FaultItem) : Calm free s (s.takeFault f) := by
  unfold State.takeFault
  split
  · exact (calm_poisonEntry s f).trans (calm_raise _ _)
  · exact calm_contain s f

theorem calm_faultAt (s : State) (k : CheckKind) (f : FaultItem) : Calm free s (s.faultAt k f) :=
  Calm.trans (t := { s with inject := s.inject.consume k }) (.of_eq rfl rfl rfl) (calm_takeFault _ f)

/-! ## Delivery, alerts, responses and the end of an event -/

theorem le_freeSlots_iff {x : PortState} {n : Nat} (hn : 0 < n) :
    n ≤ x.freeSlots ↔ x.egress.length + n ≤ Config.egressDepth := by
  unfold PortState.freeSlots
  omega

theorem serviceable_iff (x : PortState) :
    x.serviceable = true ↔ x.txOn = true ∧ x.delivery ≠ [] ∧ x.egress.length + 2 ≤ Config.egressDepth := by
  simp [PortState.serviceable, le_freeSlots_iff, and_assoc]

theorem calm_serveHead {s : State} {p : Port} (room : (s.port p).egress.length < Config.egressDepth) :
    Calm free s (s.serveHead p) := by
  have taken (v : List CtxId) : Calm free s (s.setPort p { s.port p with delivery := v }) :=
    calm_setPort ⟨rfl, rfl, rfl, rfl, id⟩
  unfold State.serveHead
  split
  · exact .refl free s
  · dsimp only
    split
    · exact ((taken _).trans (calm_release _ _)).trans (calm_faultAt _ _ _)
    · split
      · exact ((taken _).trans (calm_release _ _)).trans (calm_faultAt _ _ _)
      · exact ((taken _).trans (calm_join _ (by rwa [port_setPort]))).trans (calm_release _ _)

theorem serviceable_of_serviceablePort {s : State} {p : Port} (h : s.serviceablePort = some p) :
    (s.port p).serviceable = true := by
  simpa using List.find?_some h

theorem calm_serveFuel (n : Nat) (s : State) : Calm free s (State.serveFuel n s) := by
  induction n generalizing s with
  | zero => exact .refl free s
  | succ n ih =>
    unfold State.serveFuel
    split
    · rename_i p hp
      obtain ⟨-, -, room⟩ := (serviceable_iff _).mp (serviceable_of_serviceablePort hp)
      exact (calm_serveHead (by omega)).trans (ih _)
    · exact .refl free s

theorem calm_serveAll (s : State) : Calm free s s.serveAll := calm_serveFuel 32 s

theorem calm_offerAlert (s : State) (i : SourceId) : Calm free s (s.offerAlert i) := by
  unfold State.offerAlert
  dsimp only
  split
  · rename_i room
    split
    · exact (calm_faultAt s _ _).trans (calm_serveAll _)
    · have := (le_freeSlots_iff (Nat.succ_pos _)).mp (of_decide_eq_true (Bool.and_eq_true_iff.mp room).2)
      exact calm_join _ (by omega)
  · exact .refl free s

theorem calm_offerTo (s : State) (i : SourceId) : Calm free s (s.offerTo i) := by
  unfold State.offerTo
  split
  · exact (calm_faultAt s _ _).trans (calm_serveAll _)
  · split
    · exact calm_offerAlert s i
    · exact .refl free s

theorem calm_offerFuel (n : Nat) (s : State) : Calm free s (State.offerFuel n s) := by
  induction n generalizing s with
  | zero => exact .of_eq rfl rfl rfl
  | succ n ih =>
    unfold State.offerFuel
    split
    · have round : Calm free s s.alertRound :=
        Calm.trans (t := { s with raised := 0 }) (.of_eq rfl rfl rfl) (calm_foldl _ calm_offerTo _ _)
      exact round.trans (ih _)
    · exact .of_eq rfl rfl rfl

theorem calm_finish (s : State) : Calm free s s.finish := by
  have rounds : Calm free s s.rounds := (calm_serveAll s).trans (calm_offerFuel 3 _)
  rw [finish_frame]
  exact rounds.trans (.of_eq rfl rfl rfl)

theorem calm_respond (s : State) (p : Port) (h : Hdr) (code : Nat) (st : Status) (ws : List Word) :
    Calm free s (s.respond p h code st ws) := by
  unfold State.respond
  split
  · rename_i room
    split
    · exact calm_faultAt s _ _
    · have := (le_freeSlots_iff (Nat.succ_pos _)).mp (of_decide_eq_true (Bool.and_eq_true_iff.mp room).2)
      exact calm_join _ (by omega)
  · exact .refl free s

/-! ## Turns and pending actions -/

theorem calm_issueCtx (s : State) (r : RegionId) (k : Nat) (i : CtxId) : Calm free s (s.issueCtx r k i) := by
  unfold State.issueCtx
  dsimp only
  split
  · exact .refl free s
  · exact (calm_setCtx s i _).trans (calm_setRegion ⟨rfl, fun _ => rfl, .inl ⟨rfl, rfl⟩⟩)

theorem calm_turnCtx (s : State) (r : RegionId) (k : Nat) (i : CtxId) : Calm free s (s.turnCtx r k i) := by
  unfold State.turnCtx
  split
  · exact calm_faultAt s _ _
  · dsimp only
    split
    · exact calm_faultAt s _ _
    · exact calm_issueCtx s r k i

theorem calm_turnPatrol (s : State) (r : RegionId) : Calm free s (s.turnPatrol r) := by
  unfold State.turnPatrol
  dsimp only
  split
  · exact calm_faultAt s _ _
  · split
    · exact .refl free s
    · exact calm_setRegion ⟨rfl, fun _ => rfl, .inl ⟨rfl, rfl⟩⟩

theorem calm_takeTurn (s : State) (r : RegionId) : Calm free s (s.takeTurn r) := by
  unfold State.takeTurn
  dsimp only
  split
  · split
    · exact calm_turnPatrol s r
    · split
      · exact calm_turnCtx s r _ _
      · exact .refl free s
  · exact .refl free s

theorem calm_takeTurns (s : State) (l : List RegionId) : Calm free s (s.takeTurns l) := calm_foldl _ calm_takeTurn l s

/-- An applied timing group is the one change of a timing group outside its own write. -/
theorem calm_applyTiming (s : State) (r : RegionId) (tm : TimingGroup) : Calm true s (s.applyTiming r tm) :=
  Calm.trans (t := s.setRegion r ({ (s.region r).dropPatrol with timing := tm, timingOk := true }.settleFor 2))
    (calm_setRegion ⟨rfl, nofun, .inl ⟨rfl, rfl⟩⟩) (calm_raise _ _)

theorem calm_carryOut (s : State) (r : RegionId) : Calm true s (s.carryOut r) := by
  unfold State.carryOut
  dsimp only
  split
  · split
    · exact calm_applyTiming s r _
    · exact calm_setRegion ⟨rfl, fun _ => rfl, .inl ⟨rfl, rfl⟩⟩
    · exact calm_enterOffline s r
    · exact .refl true s
  · exact .refl true s

/-! ## Strobe-feedback inputs and region commands -/

theorem calm_takeInputs (s : State) (r : RegionId) : Calm free s (s.takeInputs r) :=
  Calm.trans (t := s.setRegion r { s.region r with training := (s.region r).training.map Training.probe })
    (calm_setRegion ⟨rfl, fun _ => rfl, .inl ⟨rfl, rfl⟩⟩) (.of_eq rfl rfl rfl)

theorem calm_becomeReady (s : State) (r : RegionId) : Calm free s (s.becomeReady r) := by
  unfold State.becomeReady
  split
  · exact calm_takeInputs s r
  · exact .of_eq rfl rfl rfl

theorem calm_releaseInputs (s : State) : Calm free s s.releaseInputs := by
  unfold State.releaseInputs
  split
  · exact .of_eq rfl rfl rfl
  · rename_i r rest _
    exact Calm.trans (t := { s with holder := none, waiting := rest }) (.of_eq rfl rfl rfl) (calm_takeInputs _ r)

theorem calm_leaveInputs (s : State) (r : RegionId) : Calm free s (s.leaveInputs r) := by
  unfold State.leaveInputs
  split
  · exact calm_releaseInputs s
  · exact .of_eq rfl rfl rfl

end

end Sys2Proof.Machine

/-!
The frame of every command. `Frame c s t` says what command `c` leaves as it was from `s` to `t`, with the two bounds that hold
over every event: attached memory keeps its canonical form, and the queues of the ports stay within their depths. It is
transitive, the shared operations keep it for every command, and the body of each command keeps it for that command.
-/

namespace Sys2Proof.Machine

/-- What a command other than DEVICE_RESET leaves as it was. -/
structure Frame (c : Instr) (s t : State) : Prop where
  pending : t.pending = s.pending
  mem : c.touchesMemory = false → t.mem = s.mem
  canonical : s.mem.wf = true → t.mem.wf = true
  sources : (∀ p h idx f, c ≠ .sourceWrite p h idx f) → t.sources = s.sources
  segments : (∀ p h seg d, c ≠ .segmentWrite p h seg d) → t.segments = s.segments
  clock : (∀ p h r g, c ≠ .profileWriteClock p h r g) → ∀ r, (t.region r).clock = (s.region r).clock
  timing : (∀ p h r g, c ≠ .profileWriteTiming p h r g) → c.touchesMemory = false →
    ∀ r, (t.region r).timing = (s.region r).timing
  patrol : (∀ p h r g, c ≠ .profileWritePatrol p h r g) → ∀ r, (s.region r).PatrolMoves (t.region r)
  patrolInterval : (∀ p h v, c ≠ .patrolSet p h v) → t.patrolInterval = s.patrolInterval
  alertMask : (∀ p h m, c ≠ .alertControlEnable p h m) → (∀ p h m, c ≠ .alertControlDisable p h m) →
    t.alertMask = s.alertMask
  checks : (∀ p h, c ≠ .checkControlEnable p h) → (∀ p h, c ≠ .checkControlDisable p h) → t.checks = s.checks
  enables : (∀ p h rx tx, c ≠ .portControlEnable p h rx tx) → (∀ p h rx tx, c ≠ .portControlDisable p h rx tx) →
    ∀ p, (t.port p).rxOn = (s.port p).rxOn ∧ (t.port p).txOn = (s.port p).txOn
  accPtr : c.acceptPort = none → t.accPtr = s.accPtr
  ingress : c.acceptPort = none → (∀ p ws ragged, c ≠ .frameArrival p ws ragged) →
    ∀ p, (t.port p).ingress = (s.port p).ingress
  mode : (∀ p h, c ≠ .clearContainment p h) → (∀ p h, c ≠ .start p h) → (∀ p h, c ≠ .softReset p h) →
    t.mode = s.mode ∨ t.mode = .contained
  bounds : QueueBounds s → QueueBounds t

section
variable {c : Instr}

/-- What the shared operations change is in no command's frame but for a timing group that is applied. -/
theorem Frame.of_calm_free {free : Bool} {s t : State} (k : Keeps s t) (q : Calm free s t)
    (applies : free = true → (∀ p h r g, c ≠ .profileWriteTiming p h r g) → c.touchesMemory ≠ false) : Frame c s t where
  pending := k.pending
  mem _ := k.mem
  canonical h := k.mem ▸ h
  sources _ := k.sources
  segments _ := k.segments
  clock _ r := (q.regions r).clock
  timing h h' r := (q.regions r).timing (by cases free with
    | false => rfl
    | true => exact absurd h' (applies rfl h))
  patrol _ r := (q.regions r).patrol
  patrolInterval _ := k.patrolInterval
  alertMask _ _ := k.alertMask
  checks _ _ := k.checks
  enables _ _ p := ⟨(q.ports p).rxOn, (q.ports p).txOn⟩
  accPtr _ := k.accPtr
  ingress _ _ p := (q.ports p).ingress
  mode _ _ _ := q.mode
  bounds b p := ⟨(q.ports p).ingress ▸ (b p).1, (q.ports p).egress (b p).2⟩

theorem Frame.of_calm {s t : State} (k : Keeps s t) (q : Calm false s t) : Frame c s t := .of_calm_free k q nofun

theorem Frame.refl (c : Instr) (s : State) : Frame c s s := .of_calm (.refl s) (.refl false s)

theorem Frame.trans {s t u : State} (a : Frame c s t) (b : Frame c t u) : Frame c s u where
  pending := b.pending.trans a.pending
  mem h := (b.mem h).trans (a.mem h)
  canonical := b.canonical ∘ a.canonical
  sources h := (b.sources h).trans (a.sources h)
  segments h := (b.segments h).trans (a.segments h)
  clock h r := (b.clock h r).trans (a.clock h r)
  timing h h' r := (b.timing h h' r).trans (a.timing h h' r)
  patrol h r := (a.patrol h r).trans (b.patrol h r)
  patrolInterval h := (b.patrolInterval h).trans (a.patrolInterval h)
  alertMask h h' := (b.alertMask h h').trans (a.alertMask h h')
  checks h h' := (b.checks h h').trans (a.checks h h')
  enables h h' p := ⟨(b.enables h h' p).1.trans (a.enables h h' p).1, (b.enables h h' p).2.trans (a.enables h h' p).2⟩
  accPtr h := (b.accPtr h).trans (a.accPtr h)
  ingress h h' p := (b.ingress h h' p).trans (a.ingress h h' p)
  mode h h' h'' := (b.mode h h' h'').elim (fun e => (a.mode h h' h'').imp e.trans e.trans) .inr
  bounds := b.bounds ∘ a.bounds


/-! ## Shared operations -/

theorem frame_respond (s : State) (p : Port) (h : Hdr) (code : Nat) (st : Status) (ws : List Word) :
    Frame c s (s.respond p h code st ws) := .of_calm (keeps_respond s p h code st ws) (calm_respond s p h code st ws)

theorem frame_faultAt (s : State) (k : CheckKind) (f : FaultItem) : Frame c s (s.faultAt k f) :=
  .of_calm (keeps_faultAt s k f) (calm_faultAt s k f)

theorem frame_takeTurn (s : State) (r : RegionId) : Frame c s (s.takeTurn r) :=
  .of_calm (keeps_takeTurn s r) (calm_takeTurn s r)

theorem frame_takeTurns (s : State) (l : List RegionId) : Frame c s (s.takeTurns l) :=
  .of_calm (keeps_takeTurns s l) (calm_takeTurns s l)

theorem frame_enterOffline (s : State) (r : RegionId) : Frame c s (s.enterOffline r) :=
  .of_calm (keeps_enterOffline s r) (calm_enterOffline s r)

theorem frame_endCtx (s : State) (i : CtxId) (st : Status) (ws : List Word) : Frame c s (s.endCtx i st ws) :=
  .of_calm (keeps_endCtx s i st ws) (calm_endCtx s i st ws)

theorem frame_serveAll (s : State) : Frame c s s.serveAll := .of_calm (keeps_serveAll s) (calm_serveAll s)

theorem frame_raise (s : State) (f : AlertFlag) : Frame c s (s.raise f) := .of_calm (keeps_raise s f) (calm_raise s f)

theorem frame_setCtx (s : State) (i : CtxId) (x : Context) : Frame c s (s.setCtx i x) :=
  .of_calm (keeps_setCtx s i x) (calm_setCtx s i x)

theorem frame_setCount (s : State) (i : SourceId) (n : Nat) : Frame c s (s.setCount i n) :=
  .of_calm (keeps_setCount s i n) (calm_setCount s i n)

theorem frame_setCursor (s : State) (i : SourceId) (k : Fin 2) (x : Cursor) : Frame c s (s.setCursor i k x) :=
  .of_calm (keeps_setCursor s i k x) (calm_setCursor s i k x)

theorem frame_setRegion {s : State} {r : RegionId} {g : Region} (h : (s.region r).Calm false g) :
    Frame c s (s.setRegion r g) := .of_calm (keeps_setRegion s r g) (calm_setRegion h)

theorem frame_leaveQueue (s : State) (r : RegionId) (i : CtxId) : Frame c s (s.leaveQueue r i) :=
  .of_calm (keeps_leaveQueue s r i) (calm_leaveQueue s r i)

theorem frame_enterQueue (s : State) (r : RegionId) (i : CtxId) : Frame c s (s.enterQueue r i) :=
  .of_calm (keeps_enterQueue s r i) (calm_enterQueue s r i)

theorem frame_releaseInputs (s : State) : Frame c s s.releaseInputs :=
  .of_calm (keeps_releaseInputs s) (calm_releaseInputs s)

theorem frame_leaveInputs (s : State) (r : RegionId) : Frame c s (s.leaveInputs r) :=
  .of_calm (keeps_leaveInputs s r) (calm_leaveInputs s r)

theorem frame_becomeReady (s : State) (r : RegionId) : Frame c s (s.becomeReady r) :=
  .of_calm (keeps_becomeReady s r) (calm_becomeReady s r)

theorem frame_trySend (s : State) (p : Port) : Frame c s (s.trySend p) := .of_calm (keeps_trySend s p) (calm_trySend s p)

theorem frame_foldl {α : Type} {f : State → α → State} (h : ∀ s a, Frame c s (f s a)) (l : List α) (s : State) :
    Frame c s (l.foldl f s) := by
  induction l generalizing s with
  | nil => exact .refl c s
  | cons a l ih => exact (h s a).trans (ih (f s a))

/-- The grant of the pins, at the end of an event, is in no frame. -/
theorem frame_finish (s : State) : Frame c s s.finish :=
  have q : Calm false s s.finish := calm_finish s
  { pending := finish_pending s
    mem := fun _ => finish_mem s
    canonical := fun h => (finish_mem s).symm ▸ h
    sources := fun _ => finish_sources s
    segments := fun _ => finish_segments s
    clock := fun _ r => (q.regions r).clock
    timing := fun _ _ r => (q.regions r).timing rfl
    patrol := fun _ r => (q.regions r).patrol
    patrolInterval := fun _ => finish_patrolInterval s
    alertMask := fun _ _ => finish_alertMask s
    checks := fun _ _ => finish_checks s
    enables := fun _ _ p => ⟨(q.ports p).rxOn, (q.ports p).txOn⟩
    accPtr := fun _ => finish_accPtr s
    ingress := fun _ _ p => (q.ports p).ingress
    mode := fun _ _ _ => q.mode
    bounds := fun b p => ⟨(q.ports p).ingress ▸ (b p).1, (q.ports p).egress (b p).2⟩ }

/-! ## Ports -/

/-- A port whose enables and ingress queue stay, and whose egress queue does not grow. -/
theorem frame_setPort {s : State} {p : Port} {v : PortState} (rxOn : v.rxOn = (s.port p).rxOn)
    (txOn : v.txOn = (s.port p).txOn) (ingress : v.ingress = (s.port p).ingress)
    (egress : v.egress.length ≤ (s.port p).egress.length) : Frame c s (s.setPort p v) := by
  have ports (q : Port) : ((s.setPort p v).port q).rxOn = (s.port q).rxOn ∧
      ((s.setPort p v).port q).txOn = (s.port q).txOn ∧ ((s.setPort p v).port q).ingress = (s.port q).ingress ∧
      ((s.setPort p v).port q).egress.length ≤ (s.port q).egress.length := by
    by_cases hq : q = p
    · subst hq
      rw [port_setPort]
      exact ⟨rxOn, txOn, ingress, egress⟩
    · rw [port_setPort_ne s v hq]
      exact ⟨rfl, rfl, rfl, le_refl _⟩
  exact { Frame.refl c s with
    enables := fun _ _ q => ⟨(ports q).1, (ports q).2.1⟩
    ingress := fun _ _ q => (ports q).2.2.1
    bounds := fun b q => ⟨(ports q).2.2.1 ▸ (b q).1, (ports q).2.2.2.trans (b q).2⟩ }

theorem frame_signal (s : State) (p : Port) (x : Signal) : Frame c s (s.signal p x) :=
  frame_setPort rfl rfl rfl (le_refl _)

end

end Sys2Proof.Machine

/-!
The frame of every command, command by command: the acceptances first, then the events of links, bursts, timers and trainings.
What follows from it: the frame of the commands, the canonical form of attached memory and the bounds of the queues.
-/

namespace Sys2Proof.Machine

section
variable {c : Instr}

/-! ## Acceptance -/

theorem frame_takeFrame {p : Port} (accepts : c.acceptPort = some p) (s : State) : Frame c s (s.takeFrame p) := by
  have notNone : c.acceptPort ≠ none := by simp [accepts]
  have ports (q : Port) : ((s.takeFrame p).port q).rxOn = (s.port q).rxOn ∧
      ((s.takeFrame p).port q).txOn = (s.port q).txOn ∧
      ((s.takeFrame p).port q).ingress.length ≤ (s.port q).ingress.length ∧
      ((s.takeFrame p).port q).egress = (s.port q).egress := by
    rw [takeFrame_eq]
    by_cases hq : q = p
    · subst hq
      cases q <;> simp [State.port, Ports.put]
    · cases p <;> cases q <;> first | exact absurd rfl hq | exact ⟨rfl, rfl, le_refl _, rfl⟩
  rw [takeFrame_eq] at ports ⊢
  exact { Frame.refl c s with
    accPtr := fun h => absurd h notNone
    ingress := fun h => absurd h notNone
    enables := fun _ _ q => ⟨(ports q).1, (ports q).2.1⟩
    bounds := fun b q => ⟨(ports q).2.2.1.trans (b q).1, (ports q).2.2.2 ▸ (b q).2⟩ }

theorem frame_accept {p : Port} (accepts : c.acceptPort = some p) {body : State → State}
    (h : ∀ s, Frame c s (body s)) (s : State) : Frame c s (s.accept c p body) := by
  unfold State.accept
  split
  · exact ((frame_takeFrame accepts s).trans (h _)).trans (frame_finish _)
  · exact .refl c s

theorem frame_acceptManage {body : State → State} (hb : ∀ s, Frame c s (body s)) (s : State) (p : Port) (h : Hdr)
    (code : Nat) : Frame c s (s.acceptManage p h code body) := by
  unfold State.acceptManage
  split
  · exact (frame_faultAt s _ _).trans (frame_respond _ _ _ _ _ _)
  · split
    · exact frame_respond _ _ _ _ _ _
    · split
      · exact hb s
      · exact frame_respond _ _ _ _ _ _

theorem frame_acceptData {body : State → State} (hb : ∀ s, Frame c s (body s)) (s : State) (p : Port) (h : Hdr)
    (code : Nat) : Frame c s (s.acceptData p h code body) := by
  unfold State.acceptData
  split
  · exact (frame_faultAt s _ _).trans (frame_respond _ _ _ _ _ _)
  · split
    · exact frame_respond _ _ _ _ _ _
    · exact hb s

/-- The frame of an acceptance is that of its body. -/
theorem frame_next {p : Port} {body : State → State} {s t : State} (accepts : c.acceptPort = some p)
    (hb : ∀ s, Frame c s (body s))
    (ht : (.next (s.accept c p body) : Host.Outcome State Fault Refusal) = .next t) : Frame c s t :=
  Host.Outcome.next.inj ht ▸ frame_accept accepts hb s

/-- The frame of the acceptance of a management request is that of its body. -/
theorem frame_manage {p : Port} {h : Hdr} {code : Nat} {body : State → State} {s t : State}
    (accepts : c.acceptPort = some p) (hb : ∀ s, Frame c s (body s))
    (ht : (.next (s.accept c p fun s => s.acceptManage p h code body) : Host.Outcome State Fault Refusal) = .next t) :
    Frame c s t := frame_next accepts (fun s => frame_acceptManage hb s p h code) ht

/-! ## Data requests -/

theorem frame_allocate (s : State) (i : CtxId) (x : Context) : Frame c s (s.allocate i x) := by
  have entered := ((frame_setCtx s i x).trans (frame_setCount (c := c) _ x.source (s.count x.source + 1))).trans
    (frame_enterQueue _ x.region i)
  unfold State.allocate
  dsimp only
  split
  · exact entered.trans (frame_setCursor _ _ _ _)
  · exact entered

theorem frame_admission (s : State) (p : Port) (h : Hdr) (code : Nat) (x : Context) :
    Frame c s (s.admission p h code x) := by
  unfold State.admission
  split
  · exact frame_respond _ _ _ _ _ _
  · split
    · exact frame_respond _ _ _ _ _ _
    · split
      · exact frame_respond _ _ _ _ _ _
      · exact (frame_allocate s _ x).trans (frame_takeTurn _ _)

theorem frame_onSegment {body : Descriptor → State → State} (hb : ∀ d s, Frame c s (body d s)) (s : State) (p : Port)
    (h : Hdr) (code : Nat) (seg : SegNo) (k : ReqKind) (ring : Ring) (f n : Nat) :
    Frame c s (s.onSegment p h code seg k ring f n body) := by
  unfold State.onSegment
  split
  · exact (frame_faultAt s _ _).trans (frame_respond _ _ _ _ _ _)
  · split
    · exact frame_respond _ _ _ _ _ _
    · exact hb _ s

theorem frame_acceptAccess (s : State) (p : Port) (h : Hdr) (k : ReqKind) (seg : SegNo) (ring : Ring) (f n : Nat)
    (pl : List Word) : Frame c s (s.acceptAccess p h k seg ring f n pl) :=
  frame_acceptData (fun s => frame_onSegment (fun _ u => frame_admission u _ _ _ _) s _ _ _ _ _ _ _ _) s p h _

theorem frame_acceptJournal (s : State) (p : Port) (h : Hdr) (k : ReqKind) (seg : SegNo) (ring : Ring) (f : Nat)
    (pl : List Word) : Frame c s (s.acceptJournal p h k seg ring f pl) :=
  frame_acceptData (fun s => frame_onSegment (fun _ u => frame_admission u _ _ _ _) s _ _ _ _ _ _ _ _) s p h _

theorem frame_acceptCursorStep (s : State) (p : Port) (h : Hdr) (k : ReqKind) (idx : Fin 2) (pl : List Word) :
    Frame c s (s.acceptCursorStep p h k idx pl) := by
  refine frame_acceptData (fun s => ?_) s p h _
  dsimp only
  split
  · exact frame_respond _ _ _ _ _ _
  · exact frame_onSegment (fun _ u => frame_admission u _ _ _ _) s _ _ _ _ _ _ _ _

theorem frame_cursorSet {p : Port} {h : Hdr} {cur : Fin 2} {seg : SegNo} {ring : Ring} {pos count size : Nat}
    {s t : State} (ht : exec (.cursorSet p h cur seg ring pos count size) s = .next t) :
    Frame (.cursorSet p h cur seg ring pos count size) s t := by
  refine frame_next rfl (fun s => frame_acceptData (fun s => ?_) s p h 8) ht
  split
  · exact frame_respond _ _ _ _ _ _
  · split
    · exact (frame_faultAt s _ _).trans (frame_respond _ _ _ _ _ _)
    · split
      · exact frame_respond _ _ _ _ _ _
      · exact (frame_setCursor s _ _ _).trans (frame_respond _ _ _ _ _ _)

/-! ## Region commands -/

theorem frame_online {s t : State} {r : RegionId} (h : s.online r = .ok t) : Frame c s t := by
  unfold State.online at h
  dsimp only at h
  split at h
  · split at h
    · obtain rfl := Except.ok.inj h
      exact frame_setRegion ⟨rfl, fun _ => rfl, .inl ⟨rfl, rfl⟩⟩
    · cases h
  · cases h

theorem frame_abortTraining (s : State) (r : RegionId) : Frame c s (s.abortTraining r) := by
  have untrained : Frame c s (s.setRegion r { (s.region r).untrain with training := none }) :=
    frame_setRegion ⟨rfl, fun _ => rfl, .inl ⟨rfl, rfl⟩⟩
  exact (untrained.trans (frame_leaveInputs _ r)).trans (frame_enterOffline _ r)

theorem frame_offline {s t : State} {r : RegionId} (h : s.offline r = .ok t) : Frame c s t := by
  unfold State.offline at h
  dsimp only at h
  split at h
  case h_1 => exact Except.ok.inj h ▸ frame_abortTraining s r
  case h_2 => exact Except.ok.inj h ▸ frame_enterOffline s r
  case h_3 => exact Except.ok.inj h ▸ frame_enterOffline s r
  case h_4 =>
    obtain rfl := Except.ok.inj h
    split
    · exact frame_setRegion ⟨rfl, fun _ => rfl, .inl ⟨rfl, rfl⟩⟩
    · exact frame_enterOffline s r
  case h_5 => exact Except.ok.inj h ▸ frame_setRegion ⟨rfl, fun _ => rfl, .inl ⟨rfl, rfl⟩⟩
  case h_6 => cases h
  case h_7 => cases h

theorem frame_parkRegion {s t : State} {r : RegionId} (h : s.parkRegion r = .ok t) : Frame c s t := by
  unfold State.parkRegion at h
  dsimp only at h
  split at h
  · obtain rfl := Except.ok.inj h
    split <;> exact frame_setRegion ⟨rfl, fun _ => rfl, .inl ⟨rfl, rfl⟩⟩
  all_goals cases h

theorem frame_unpark {s t : State} {r : RegionId} (h : s.unpark r = .ok t) : Frame c s t := by
  unfold State.unpark at h
  dsimp only at h
  split at h
  · obtain rfl := Except.ok.inj h
    split
    · exact frame_setRegion ⟨rfl, fun _ => rfl, .inl ⟨rfl, rfl⟩⟩
    · exact (frame_enterOffline s r).trans (frame_raise _ _)
  · cases h

theorem frame_train {s t : State} {r : RegionId} (h : s.train r = .ok t) : Frame c s t := by
  unfold State.train at h
  dsimp only at h
  split at h
  · split at h
    · cases h
    · split at h
      · cases h
      · obtain rfl := Except.ok.inj h
        have begun : Frame c s (s.setRegion r (s.region r).beginTraining) :=
          frame_setRegion ⟨rfl, fun _ => rfl, .inl ⟨rfl, rfl⟩⟩
        exact begun.trans (frame_becomeReady _ r)
  · cases h

theorem frame_runRegions {act : State → RegionId → Except Status State}
    (ha : ∀ s r t, act s r = .ok t → Frame c s t) (s : State) (mask : BitVec 8) :
    Frame c s (runRegions act s mask).state := by
  have visited (l : List RegionId) (x : Progress) (h : Frame c s x.state) :
      Frame c s (l.foldl (Progress.visit act) x).state := by
    induction l generalizing x with
    | nil => exact h
    | cons r l ih =>
      refine ih _ ?_
      unfold Progress.visit
      split
      · rename_i t ht
        exact h.trans (ha _ _ _ ht)
      · exact h
  exact visited _ _ (.refl c s)

theorem frame_regionCommand {act : State → RegionId → Except Status State}
    (ha : ∀ s r t, act s r = .ok t → Frame c s t) (s : State) (p : Port) (h : Hdr) (mask : BitVec 8) :
    Frame c s (s.regionCommand p h act mask) := by
  unfold State.regionCommand
  split
  · exact frame_respond _ _ _ _ _ _
  · exact (frame_runRegions ha s mask).trans (frame_respond _ _ _ _ _ _)

/-! ## Profiles -/

/-- A region whose profile stays but for the groups that the command writes. -/
theorem frame_writeRegion {s : State} {r : RegionId} {g : Region}
    (clock : (∀ p h r g, c ≠ .profileWriteClock p h r g) → g.clock = (s.region r).clock)
    (timing : (∀ p h r g, c ≠ .profileWriteTiming p h r g) → c.touchesMemory = false → g.timing = (s.region r).timing)
    (patrol : (∀ p h r g, c ≠ .profileWritePatrol p h r g) → (s.region r).PatrolMoves g) :
    Frame c s (s.setRegion r g) := by
  have split {P : Region → Region → Prop} (same : ∀ g, P g g) (h : P (s.region r) g) (x : RegionId) :
      P (s.region x) ((s.setRegion r g).region x) := by
    by_cases hx : x = r
    · subst hx
      rwa [region_setRegion]
    · rw [region_setRegion_ne s g hx]
      exact same _
  exact { Frame.refl c s with
    clock := fun h => split (P := fun a b => b.clock = a.clock) (fun _ => rfl) (clock h)
    timing := fun h h' => split (P := fun a b => b.timing = a.timing) (fun _ => rfl) (timing h h')
    patrol := fun h => split (P := Region.PatrolMoves) (fun _ => .inl ⟨rfl, rfl⟩) (patrol h) }

theorem frame_profileWriteClock {p : Port} {h : Hdr} {region : Nat} {x : ClockGroup} {s t : State}
    (ht : exec (.profileWriteClock p h region x) s = .next t) : Frame (.profileWriteClock p h region x) s t := by
  refine frame_manage rfl (fun s => ?_) ht
  split
  · exact frame_respond _ _ _ _ _ _
  · split
    · exact frame_respond _ _ _ _ _ _
    · rename_i r _ _
      split
      · have stored : Frame (.profileWriteClock p h region x) s (s.setRegion r ((s.region r).storeClock x)) :=
          frame_writeRegion (fun hc => absurd rfl (hc _ _ _ _)) (fun _ _ => rfl) fun _ => .inl ⟨rfl, rfl⟩
        exact stored.trans (frame_respond _ _ _ _ _ _)
      · exact frame_respond _ _ _ _ _ _

theorem frame_profileWriteTiming {p : Port} {h : Hdr} {region : Nat} {x : TimingGroup} {s t : State}
    (ht : exec (.profileWriteTiming p h region x) s = .next t) : Frame (.profileWriteTiming p h region x) s t := by
  have write {s : State} {r : RegionId} (g : Region) (clock : g.clock = (s.region r).clock)
      (patrol : (s.region r).PatrolMoves g) : Frame (.profileWriteTiming p h region x) s (s.setRegion r g) :=
    frame_writeRegion (fun _ => clock) (fun hc _ => absurd rfl (hc _ _ _ _)) fun _ => patrol
  have retimed (s : State) (r : RegionId) : Frame (.profileWriteTiming p h region x) s (s.retime r x) := by
    unfold State.retime
    dsimp only
    split
    · exact write _ rfl (.inl ⟨rfl, rfl⟩)
    · exact (write (s.region r).unnameTiming rfl (.inl ⟨rfl, rfl⟩)).trans
        (.of_calm_free (keeps_applyTiming _ r x) (calm_applyTiming _ r x) fun _ hc => absurd rfl (hc _ _ _ _))
  refine frame_manage rfl (fun s => ?_) ht
  split
  · exact frame_respond _ _ _ _ _ _
  · rename_i r _
    split
    · exact frame_respond _ _ _ _ _ _
    · split
      · exact (write ((s.region r).storeTiming x) rfl (.inl ⟨rfl, rfl⟩)).trans (frame_respond _ _ _ _ _ _)
      · split
        · exact (retimed s r).trans (frame_respond _ _ _ _ _ _)
        · exact frame_respond _ _ _ _ _ _

theorem frame_profileWritePatrol {p : Port} {h : Hdr} {region : Nat} {x : PatrolGroup} {s t : State}
    (ht : exec (.profileWritePatrol p h region x) s = .next t) : Frame (.profileWritePatrol p h region x) s t := by
  refine frame_manage rfl (fun s => ?_) ht
  split
  · exact frame_respond _ _ _ _ _ _
  · split
    · exact frame_respond _ _ _ _ _ _
    · rename_i r _ _
      have entered := Region.admitPatrol_calm (free := false)
        { s.region r with written := some x, patrolOk := true, poison := { (s.region r).poison with patrol := false } }
      have stored : Frame (.profileWritePatrol p h region x) s (s.setRegion r ((s.region r).storePatrol x)) :=
        frame_writeRegion (fun _ => entered.clock) (fun _ _ => entered.timing rfl) fun hc => absurd rfl (hc _ _ _ _)
      exact stored.trans (frame_respond _ _ _ _ _ _)

end

end Sys2Proof.Machine

namespace Sys2Proof.Machine

/-! ## The tables -/

theorem frame_sourceWrite {p : Port} {h : Hdr} {idx : Nat} {f : SourceFields} {s t : State}
    (ht : exec (.sourceWrite p h idx f) s = .next t) : Frame (.sourceWrite p h idx f) s t := by
  refine frame_manage rfl (fun s => ?_) ht
  split
  · exact frame_respond _ _ _ _ _ _
  · rename_i i _
    split
    · exact frame_respond _ _ _ _ _ _
    · have stored : Frame (.sourceWrite p h idx f) s (s.storeSource i f) :=
        { Frame.refl _ s with sources := fun hc => absurd rfl (hc _ _ _ _) }
      exact stored.trans (frame_respond _ _ _ _ _ _)

theorem frame_segmentWrite {p : Port} {h : Hdr} {seg : Nat} {d : SegOperands} {s t : State}
    (ht : exec (.segmentWrite p h seg d) s = .next t) : Frame (.segmentWrite p h seg d) s t := by
  refine frame_manage rfl (fun s => ?_) ht
  split
  · exact frame_respond _ _ _ _ _ _
  · rename_i i _
    split
    · have stored : Frame (.segmentWrite p h seg d) s (s.storeSegment i d) :=
        { Frame.refl _ s with segments := fun hc => absurd rfl (hc _ _ _ _) }
      exact stored.trans (frame_respond _ _ _ _ _ _)
    · exact frame_respond _ _ _ _ _ _

theorem frame_sourceRead {p : Port} {h : Hdr} {idx : Nat} {s t : State}
    (ht : exec (.sourceRead p h idx) s = .next t) : Frame (.sourceRead p h idx) s t := by
  refine frame_manage rfl (fun s => ?_) ht
  split
  · exact frame_respond _ _ _ _ _ _
  · split
    · exact frame_respond _ _ _ _ _ _
    · split
      · exact (frame_faultAt s _ _).trans (frame_respond _ _ _ _ _ _)
      · exact frame_respond _ _ _ _ _ _

theorem frame_segmentRead {p : Port} {h : Hdr} {seg : Nat} {s t : State}
    (ht : exec (.segmentRead p h seg) s = .next t) : Frame (.segmentRead p h seg) s t := by
  refine frame_manage rfl (fun s => ?_) ht
  split
  · exact frame_respond _ _ _ _ _ _
  · split
    · exact frame_respond _ _ _ _ _ _
    · split
      · exact (frame_faultAt s _ _).trans (frame_respond _ _ _ _ _ _)
      · exact frame_respond _ _ _ _ _ _

theorem frame_profileRead {p : Port} {h : Hdr} {region : Nat} {s t : State}
    (ht : exec (.profileRead p h region) s = .next t) : Frame (.profileRead p h region) s t := by
  refine frame_manage rfl (fun s => ?_) ht
  split
  · exact frame_respond _ _ _ _ _ _
  · split
    · exact frame_respond _ _ _ _ _ _
    · split
      · exact (frame_faultAt s _ _).trans (frame_respond _ _ _ _ _ _)
      · exact frame_respond _ _ _ _ _ _

/-! ## Control -/

/-- A port control that may change enables, with an egress queue that does not grow. -/
theorem frame_controlPort {c : Instr} (controls : ¬((∀ p h rx tx, c ≠ .portControlEnable p h rx tx) ∧
      ∀ p h rx tx, c ≠ .portControlDisable p h rx tx)) {s : State} {p : Port} {v : PortState}
    (ingress : v.ingress = (s.port p).ingress) (egress : v.egress.length ≤ (s.port p).egress.length) :
    Frame c s (s.setPort p v) := by
  have ports (q : Port) : ((s.setPort p v).port q).ingress = (s.port q).ingress ∧
      ((s.setPort p v).port q).egress.length ≤ (s.port q).egress.length := by
    by_cases hq : q = p
    · subst hq
      rw [port_setPort]
      exact ⟨ingress, egress⟩
    · rw [port_setPort_ne s v hq]
      exact ⟨rfl, le_refl _⟩
  exact { Frame.refl c s with
    enables := fun he hd => absurd ⟨he, hd⟩ controls
    ingress := fun _ _ q => (ports q).1
    bounds := fun b q => ⟨(ports q).1 ▸ (b q).1, (ports q).2.trans (b q).2⟩ }

section
variable {p : Port} {h : Hdr} {rx tx : BitVec 4}

theorem frame_enablePort (s : State) (q : Port) :
    Frame (.portControlEnable p h rx tx) s (State.enablePort rx tx s q) := by
  have control {s : State} {q : Port} {v : PortState} (hi : v.ingress = (s.port q).ingress)
      (he : v.egress.length ≤ (s.port q).egress.length) : Frame (.portControlEnable p h rx tx) s (s.setPort q v) :=
    frame_controlPort (fun hc => hc.1 _ _ _ _ rfl) hi he
  have receiver (s : State) : Frame (.portControlEnable p h rx tx) s (s.enableReceiver q) := by
    unfold State.enableReceiver
    split
    · exact .refl _ s
    · exact (control (v := { s.port q with rxOn := true }) rfl (le_refl _)).trans (frame_signal _ q _)
  have transmitter (s : State) : Frame (.portControlEnable p h rx tx) s (s.enableTransmitter q) := by
    unfold State.enableTransmitter
    split
    · exact .refl _ s
    · exact (control (v := { s.port q with txOn := true }) rfl (le_refl _)).trans (frame_trySend _ q)
  have received : Frame (.portControlEnable p h rx tx) s (if portItem rx q then s.enableReceiver q else s) := by
    split
    · exact receiver s
    · exact .refl _ s
  unfold State.enablePort
  dsimp only
  split
  · exact received.trans (transmitter _)
  · exact received

theorem frame_disablePort (s : State) (q : Port) :
    Frame (.portControlDisable p h rx tx) s (State.disablePort rx tx s q) := by
  have control {s : State} {q : Port} {v : PortState} (hi : v.ingress = (s.port q).ingress)
      (he : v.egress.length ≤ (s.port q).egress.length) : Frame (.portControlDisable p h rx tx) s (s.setPort q v) :=
    frame_controlPort (fun hc => hc.2 _ _ _ _ rfl) hi he
  have receiver (s : State) : Frame (.portControlDisable p h rx tx) s (s.disableReceiver q) := control rfl (le_refl _)
  have transmitter (s : State) : Frame (.portControlDisable p h rx tx) s (s.disableTransmitter q) := by
    unfold State.disableTransmitter
    split
    · refine (control (v := { s.port q with txOn := false, egress := [], delivery := [] }) rfl (Nat.zero_le _)).trans
        (frame_foldl (fun s i => ?_) _ _)
      exact .of_calm (keeps_release s i) (calm_release s i)
    · exact .refl _ s
  have received : Frame (.portControlDisable p h rx tx) s (if portItem rx q then s.disableReceiver q else s) := by
    split
    · exact receiver s
    · exact .refl _ s
  unfold State.disablePort
  dsimp only
  split
  · exact received.trans (transmitter _)
  · exact received

end

theorem region_freed_calm (g : Region) : g.Calm false g.freed :=
  Region.Calm.trans (k := { g.dropPatrol with queue := [], turn := 0 }) ⟨rfl, fun _ => rfl, .inl ⟨rfl, rfl⟩⟩
    (Region.abandonBurst_calm _)

theorem frame_softResetState (p : Port) (h : Hdr) (s : State) : Frame (.softReset p h) s s.softReset := by
  have regions (r : RegionId) : (s.region r).Calm false (s.softReset.region r) := by
    rw [show s.softReset.region r = (s.region r).freed from region_map s Region.freed r]
    exact region_freed_calm _
  have ports (q : Port) : s.softReset.port q = (s.port q).emptied := by cases q <;> rfl
  exact { Frame.refl _ s with
    clock := fun _ r => (regions r).clock
    timing := fun _ _ r => (regions r).timing rfl
    patrol := fun _ r => (regions r).patrol
    enables := fun _ _ q => by rw [ports]; exact ⟨rfl, rfl⟩
    ingress := nofun
    mode := fun _ _ hc => absurd rfl (hc _ _)
    bounds := fun _ q => by rw [ports]; exact ⟨Nat.zero_le _, Nat.zero_le _⟩ }

theorem region_leaveHalted_calm (g : Region) : g.Calm false g.leaveHalted := by
  unfold Region.leaveHalted
  dsimp only
  have up : g.Calm false (if g.ready then
      ({ g with prior := none, priorAction := none } : Region).settleFor 10 else
      ({ g with prior := none, priorAction := none } : Region).goOffline) := by
    split <;> exact ⟨rfl, fun _ => rfl, .inl ⟨rfl, rfl⟩⟩
  split
  all_goals first | exact up | exact ⟨rfl, fun _ => rfl, .inl ⟨rfl, rfl⟩⟩

theorem frame_clearContainmentState (p : Port) (h : Hdr) (s : State) :
    Frame (.clearContainment p h) s s.clearContainment := by
  have regions (r : RegionId) : (s.region r).Calm false (s.clearContainment.region r) := by
    rw [show s.clearContainment.region r = (s.region r).leaveHalted from region_map s Region.leaveHalted r]
    exact region_leaveHalted_calm _
  exact { Frame.refl _ s with
    clock := fun _ r => (regions r).clock
    timing := fun _ _ r => (regions r).timing rfl
    patrol := fun _ r => (regions r).patrol
    mode := fun hc => absurd rfl (hc _ _) }

/-! ## Links -/

theorem frame_frameArrival {p : Port} {ws : List Word} {ragged : Bool} {s t : State}
    (ht : exec (.frameArrival p ws ragged) s = .next t) : Frame (.frameArrival p ws ragged) s t := by
  obtain rfl := Host.Outcome.next.inj ht
  refine Frame.trans ?_ (frame_finish _)
  unfold State.arrive
  dsimp only
  split
  · exact .refl _ s
  · split
    · refine Frame.trans ?_ (frame_raise _ _)
      split
      · exact frame_signal s p _
      · exact .refl _ s
    · split
      · exact frame_raise s _
      · rename_i room
        have ports {q : Port} (hq : q ≠ p) := port_setPort_ne s (v := { s.port p with ingress := (s.port p).ingress ++ [ws] }) hq
        refine { Frame.refl _ s with enables := fun _ _ q => ?_, ingress := ?_, bounds := fun b q => ?_ }
        · by_cases hq : q = p
          · subst hq; rw [port_setPort]; exact ⟨rfl, rfl⟩
          · rw [ports hq]; exact ⟨rfl, rfl⟩
        · exact fun _ hc => absurd rfl (hc _ _ _)
        · by_cases hq : q = p
          · subst hq
            rw [port_setPort]
            refine ⟨?_, (b q).2⟩
            rw [List.length_append, List.length_singleton]
            omega
          · rw [ports hq]
            exact b q

theorem frame_sendOn {c : Instr} {s : State} {p : Port} {v : PortState} (rxOn : v.rxOn = (s.port p).rxOn)
    (txOn : v.txOn = (s.port p).txOn) (ingress : v.ingress = (s.port p).ingress)
    (egress : v.egress = (s.port p).egress) : Frame c s ((s.setPort p v).trySend p).finish :=
  ((frame_setPort rxOn txOn ingress (egress ▸ le_refl _)).trans (frame_trySend _ p)).trans (frame_finish _)

theorem frame_undecodableFrame {p : Port} {ws : List Word} {s t : State}
    (ht : exec (.undecodableFrame p ws) s = .next t) : Frame (.undecodableFrame p ws) s t := by
  refine frame_next rfl (fun s => ?_) ht
  split
  · exact frame_acceptManage (fun s => frame_respond _ _ _ _ _ _) s p _ _
  · exact frame_respond _ _ _ _ _ _

end Sys2Proof.Machine

namespace Sys2Proof.Machine

/-! ## The end of an access -/

section
variable {c : Instr}

theorem frame_settle (s : State) (i : CtxId) (v : Verdict) : Frame c s (s.settle i v) := by
  cases v with
  | plan x => exact frame_setCtx s i x
  | ends st ws => exact frame_endCtx s i st ws

theorem frame_moveToTarget (s : State) (i : CtxId) (d : Descriptor) (ring : Ring) (t : Nat) :
    Frame c s (s.moveToTarget i d ring t) :=
  ((frame_leaveQueue s _ i).trans (frame_setCtx _ i _)).trans (frame_enterQueue _ _ i)

theorem frame_linkCompletion (s : State) (i : CtxId) : Frame c s (s.linkCompletion i) := by
  unfold State.linkCompletion
  dsimp only
  split
  · exact frame_endCtx s i _ _
  · split
    · exact frame_faultAt s _ _
    · split
      · exact frame_endCtx s i _ _
      · split
        · exact frame_endCtx s i _ _
        · exact frame_moveToTarget s i _ _ _

theorem frame_cursorCompletion (s : State) (i : CtxId) : Frame c s (s.cursorCompletion i) :=
  (frame_setCursor s _ _ _).trans (frame_endCtx _ i _ _)

theorem frame_accessEnd (s : State) (i : CtxId) : Frame c s (s.accessEnd i) := by
  unfold State.accessEnd
  dsimp only
  split
  · exact frame_linkCompletion s i
  · exact frame_endCtx s i _ _
  · exact frame_endCtx s i _ _
  · exact frame_settle s i _
  · exact frame_settle s i _
  · exact frame_settle s i _
  · exact frame_cursorCompletion s i
  · exact frame_cursorCompletion s i

/-! ## The end of a burst -/

theorem frame_patrolCompletion (s : State) (r : RegionId) (words : List Word) :
    Frame c s (s.patrolCompletion r words) := by
  have compared (s : State) (pr : PatrolRead) : Frame c s (s.comparePatrol r pr) := by
    unfold State.comparePatrol
    split
    · exact .refl c s
    · split
      · exact .of_calm (keeps_takeFault s _) (calm_takeFault s _)
      · exact frame_raise s _
  unfold State.patrolCompletion
  dsimp only
  split
  · split
    · exact (frame_setRegion (g := { s.region r with due := false, patrolRead := none })
        ⟨rfl, fun _ => rfl, .inl ⟨rfl, rfl⟩⟩).trans (compared _ _)
    · exact frame_setRegion ⟨rfl, fun _ => rfl, .inl ⟨rfl, rfl⟩⟩
  · exact .refl c s

theorem frame_contextCompletion (s : State) (i : CtxId) (b : Burst) (ws : List (Nat × Word)) :
    Frame c s (s.contextCompletion i b ws) := by
  have advanced : Frame c s (s.advance i b ws) := frame_setCtx s i _
  unfold State.contextCompletion
  dsimp only
  split
  · exact advanced.trans (frame_accessEnd _ i)
  · exact advanced

variable (touches : c.touchesMemory = true)
include touches

theorem frame_burstMoved (s : State) (r : RegionId) (b : Burst) (taken : Nat → Bool) :
    Frame c s (s.burstMoved r b taken) := by
  have off : Frame c s (s.setRegion r (s.region r).endBurst) :=
    frame_setRegion (Region.Calm.trans (k := { s.region r with burst := none }) ⟨rfl, fun _ => rfl, .inl ⟨rfl, rfl⟩⟩
      (Region.admitPatrol_calm _))
  refine off.trans { Frame.refl c (s.setRegion r (s.region r).endBurst) with mem := fun h => ?_, canonical := ?_ }
  · rw [touches] at h
    cases h
  · exact wf_land b r taken

theorem frame_afterBurst (s : State) (r : RegionId) (moved : List RegionId) : Frame c s (s.afterBurst r moved) := by
  have carried : Frame c s (s.carryOut r) :=
    .of_calm_free (keeps_carryOut s r) (calm_carryOut s r) fun _ _ => by simp [touches]
  exact (carried.trans (frame_serveAll _)).trans (frame_takeTurns _ _)

theorem frame_completeBurst (s : State) (r : RegionId) (b : Burst) (samples : List (Nat × Word × Bool)) :
    Frame c s (s.completeBurst r b samples) := by
  unfold State.completeBurst
  split
  · exact frame_faultAt s _ _
  · split
    · exact (frame_contextCompletion s _ b _).trans (frame_afterBurst touches _ r _)
    · exact (frame_patrolCompletion s r _).trans (frame_afterBurst touches _ r _)

theorem frame_endAbandoned (s : State) (r : RegionId) (b : Burst) (taken : Nat → Bool) :
    Frame c s (s.endAbandoned r b taken) :=
  (frame_burstMoved touches s r b taken).trans (frame_afterBurst touches _ r _)

theorem frame_timeOut (s : State) (r : RegionId) (b : Burst) (moved : Nat) : Frame c s (s.timeOut r b moved) := by
  have off : Frame c s { s.burstMoved r b (s.timeoutTaken moved) with freeCount := s.freeCount + 1 } :=
    (frame_burstMoved touches s r b (s.timeoutTaken moved)).trans { Frame.refl c _ with }
  unfold State.timeOut
  dsimp only
  split
  · exact ((off.trans (frame_endCtx _ _ _ _)).trans (frame_enterOffline _ r)).trans (frame_raise _ _)
  · exact (off.trans (frame_enterOffline _ r)).trans (frame_raise _ _)

end

/-! ## Events of bursts, timers and trainings -/

theorem frame_burstCompletion {r : RegionId} {dev : List BusDeviation} {s t : State}
    (ht : exec (.burstCompletion r dev) s = .next t) : Frame (.burstCompletion r dev) s t := by
  rw [exec_burstCompletion, execBurstCompletion] at ht
  split at ht
  · exact Host.Outcome.next.inj ht ▸ .refl _ s
  · split at ht
    · exact Host.Outcome.next.inj ht ▸ .refl _ s
    · split at ht
      · cases ht
      · obtain rfl := Host.Outcome.next.inj ht
        exact ((frame_burstMoved rfl s r _ _).trans (frame_completeBurst rfl _ r _ _)).trans (frame_finish _)

theorem frame_readyTimeout {r : RegionId} {moved : Nat} {s t : State}
    (ht : exec (.readyTimeout r moved) s = .next t) : Frame (.readyTimeout r moved) s t := by
  rw [exec_readyTimeout, execReadyTimeout] at ht
  split at ht
  · exact Host.Outcome.next.inj ht ▸ .refl _ s
  · split at ht
    · exact Host.Outcome.next.inj ht ▸ .refl _ s
    · split at ht
      · cases ht
      · split at ht
        · exact Host.Outcome.next.inj ht ▸ (frame_endAbandoned rfl s r _ _).trans (frame_finish _)
        · split at ht
          · exact Host.Outcome.next.inj ht ▸ (frame_timeOut rfl s r _ _).trans (frame_finish _)
          · exact Host.Outcome.next.inj ht ▸ .refl _ s

theorem frame_abandonedBurstEnd {r : RegionId} {release : Option Nat} {s t : State}
    (ht : exec (.abandonedBurstEnd r release) s = .next t) : Frame (.abandonedBurstEnd r release) s t := by
  rw [exec_abandonedBurstEnd, execAbandonedBurstEnd] at ht
  split at ht
  · exact Host.Outcome.next.inj ht ▸ .refl _ s
  · split at ht
    · exact Host.Outcome.next.inj ht ▸ .refl _ s
    · split at ht
      · cases ht
      · split at ht
        · exact Host.Outcome.next.inj ht ▸ (frame_endAbandoned rfl s r _ _).trans (frame_finish _)
        · split at ht
          · exact Host.Outcome.next.inj ht ▸ (frame_endAbandoned rfl s r _ _).trans (frame_finish _)
          · exact Host.Outcome.next.inj ht ▸ .refl _ s

theorem frame_settleExpiry {r : RegionId} {s t : State} (ht : exec (.settleExpiry r) s = .next t) :
    Frame (.settleExpiry r) s t := by
  obtain rfl := Host.Outcome.next.inj ht
  split
  · have online : Frame (.settleExpiry r) s (s.setRegion r { s.region r with state := .online, settle := none }) :=
      frame_setRegion ⟨rfl, fun _ => rfl, .inl ⟨rfl, rfl⟩⟩
    exact (online.trans (frame_takeTurn _ r)).trans (frame_finish _)
  · exact .refl _ s

theorem frame_patrolIntervalExpiry {s t : State} (ht : exec .patrolIntervalExpiry s = .next t) :
    Frame .patrolIntervalExpiry s t := by
  obtain rfl := Host.Outcome.next.inj ht
  split
  · have marked (s : State) (r : RegionId) : Frame .patrolIntervalExpiry s (s.markDue r) :=
      frame_setRegion ⟨rfl, fun _ => rfl, .inl ⟨rfl, rfl⟩⟩
    exact ((frame_foldl marked _ s).trans (frame_takeTurns _ _)).trans (frame_finish _)
  · exact .refl _ s

section
variable {c : Instr}

theorem frame_endTraining {s : State} {r : RegionId} {g : Region} (h : (s.region r).Calm false g) (f : AlertFlag) :
    Frame c s (s.endTraining r g f) := by
  have gone : Frame c s (s.setRegion r { g with training := none }) := frame_setRegion ⟨h.clock, h.timing, h.patrol⟩
  exact ((gone.trans (frame_enterOffline _ r)).trans (frame_raise _ f)).trans (frame_releaseInputs _)

theorem frame_failTraining (s : State) (r : RegionId) : Frame c s (s.failTraining r) :=
  frame_endTraining (g := (s.region r).untrain) ⟨rfl, fun _ => rfl, .inl ⟨rfl, rfl⟩⟩ _

theorem frame_recordSample (s : State) (r : RegionId) (t : Training) : Frame c s (s.recordSample r t) := by
  have stored (t : Training) : Frame c s (s.setRegion r { s.region r with training := some t }) :=
    frame_setRegion ⟨rfl, fun _ => rfl, .inl ⟨rfl, rfl⟩⟩
  unfold State.recordSample State.stepOutcome
  split
  · split
    · rename_i steps _
      exact frame_endTraining (g := { s.region r with trained := true, delays := steps })
        ⟨rfl, fun _ => rfl, .inl ⟨rfl, rfl⟩⟩ _
    · split
      · exact frame_failTraining s r
      · exact ((stored _).trans (frame_releaseInputs _)).trans (frame_becomeReady _ r)
  · exact stored t

end

theorem frame_strobeSample {input : Fin 4} {level : Bool} {s t : State}
    (ht : exec (.strobeSample input level) s = .next t) : Frame (.strobeSample input level) s t := by
  obtain rfl := Host.Outcome.next.inj ht
  split
  · exact .refl _ s
  · split
    · exact .refl _ s
    · split
      · exact (frame_recordSample s _ _).trans (frame_finish _)
      · exact .refl _ s

theorem frame_stepTimerExpiry {s t : State} (ht : exec .stepTimerExpiry s = .next t) : Frame .stepTimerExpiry s t := by
  obtain rfl := Host.Outcome.next.inj ht
  split
  · exact .refl _ s
  · split
    · exact .refl _ s
    · split
      · exact (frame_failTraining s _).trans (frame_finish _)
      · exact .refl _ s

/-! ## Every command -/

/-- Every command but DEVICE_RESET keeps its frame. -/
theorem frame_exec {c : Instr} {s t : State} (hc : c ≠ .deviceReset) (ht : exec c s = .next t) : Frame c s t := by
  cases c with
  | deviceReset => exact absurd rfl hc
  | frameArrival p ws ragged => exact frame_frameArrival ht
  | linkCredit p => exact Host.Outcome.next.inj ht ▸ frame_sendOn rfl rfl rfl rfl
  | partnerCreditRestore p n => exact Host.Outcome.next.inj ht ▸ frame_sendOn rfl rfl rfl rfl
  | frameSent p =>
    obtain rfl := Host.Outcome.next.inj ht
    split
    · exact frame_sendOn rfl rfl rfl rfl
    · exact .refl _ s
  | undecodableFrame p ws => exact frame_undecodableFrame ht
  | read p h seg ring off len => exact frame_next rfl (fun s => frame_acceptAccess s _ _ _ _ _ _ _ _) ht
  | write p h seg ring off len pl => exact frame_next rfl (fun s => frame_acceptAccess s _ _ _ _ _ _ _ _) ht
  | compareSwap p h seg ring off e n => exact frame_next rfl (fun s => frame_acceptAccess s _ _ _ _ _ _ _ _) ht
  | append p h seg ring pl => exact frame_next rfl (fun s => frame_acceptJournal s _ _ _ _ _ _ _) ht
  | journalRestart p h seg ring f => exact frame_next rfl (fun s => frame_acceptJournal s _ _ _ _ _ _ _) ht
  | cursorSet p h cur seg ring pos count size => exact frame_cursorSet ht
  | cursorRead p h cur => exact frame_next rfl (fun s => frame_acceptCursorStep s _ _ _ _ _) ht
  | cursorWrite p h cur lo hi => exact frame_next rfl (fun s => frame_acceptCursorStep s _ _ _ _ _) ht
  | cursorQuery p h cur =>
    exact frame_next rfl (fun s => frame_acceptData (fun s => frame_respond _ _ _ _ _ _) s p h 11) ht
  | sourceWrite p h idx f => exact frame_sourceWrite ht
  | sourceRead p h idx => exact frame_sourceRead ht
  | segmentWrite p h seg d => exact frame_segmentWrite ht
  | segmentRead p h seg => exact frame_segmentRead ht
  | profileWriteClock p h r g => exact frame_profileWriteClock ht
  | profileWriteTiming p h r g => exact frame_profileWriteTiming ht
  | profileWritePatrol p h r g => exact frame_profileWritePatrol ht
  | profileRead p h r => exact frame_profileRead ht
  | regionCommandOnline p h m =>
    exact frame_manage rfl (fun s => frame_regionCommand (fun _ _ _ => frame_online) s p h m) ht
  | regionCommandOffline p h m =>
    exact frame_manage rfl (fun s => frame_regionCommand (fun _ _ _ => frame_offline) s p h m) ht
  | regionCommandPark p h m =>
    exact frame_manage rfl (fun s => frame_regionCommand (fun _ _ _ => frame_parkRegion) s p h m) ht
  | regionCommandUnpark p h m =>
    exact frame_manage rfl (fun s => frame_regionCommand (fun _ _ _ => frame_unpark) s p h m) ht
  | regionCommandTrain p h m =>
    exact frame_manage rfl (fun s => frame_regionCommand (fun _ _ _ => frame_train) s p h m) ht
  | portControlEnable p h rx tx =>
    exact frame_manage rfl (fun s => (frame_foldl frame_enablePort _ s).trans (frame_respond _ _ _ _ _ _)) ht
  | portControlDisable p h rx tx =>
    refine frame_manage rfl (fun s => ?_) ht
    split
    · exact frame_respond _ _ _ _ _ _
    · exact (frame_foldl frame_disablePort _ s).trans (frame_respond _ _ _ _ _ _)
  | checkControlEnable p h =>
    refine frame_manage rfl (fun s => Frame.trans (t := { s with checks := true }) ?_ (frame_respond _ _ _ _ _ _)) ht
    exact { Frame.refl _ s with checks := fun hc => absurd rfl (hc _ _) }
  | checkControlDisable p h =>
    refine frame_manage rfl
      (fun s => Frame.trans (t := { s with checks := false, inject := .none }) ?_ (frame_respond _ _ _ _ _ _)) ht
    exact { Frame.refl _ s with checks := fun _ hc => absurd rfl (hc _ _) }
  | checkControlInject p h check =>
    refine frame_manage rfl (fun s => ?_) ht
    split
    · exact frame_respond _ _ _ _ _ _
    · split
      · exact frame_respond _ _ _ _ _ _
      · exact (frame_respond s _ _ _ _ _).trans { Frame.refl _ _ with }
  | patrolSet p h v =>
    refine frame_manage rfl (fun s => ?_) ht
    split
    · exact frame_respond _ _ _ _ _ _
    · refine Frame.trans (t := { s with patrolInterval := v }) ?_ (frame_respond _ _ _ _ _ _)
      exact { Frame.refl _ s with patrolInterval := fun hc => absurd rfl (hc _ _ _) }
  | statusRead p h => exact frame_manage rfl (fun s => frame_respond _ _ _ _ _ _) ht
  | alertControlEnable p h m =>
    refine frame_manage rfl
      (fun s => Frame.trans (t := { s with alertMask := s.alertMask ||| m }) ?_ (frame_respond _ _ _ _ _ _)) ht
    exact { Frame.refl _ s with alertMask := fun hc => absurd rfl (hc _ _ _) }
  | alertControlDisable p h m =>
    refine frame_manage rfl
      (fun s => Frame.trans (t := { s with alertMask := s.alertMask &&& ~~~m }) ?_ (frame_respond _ _ _ _ _ _)) ht
    exact { Frame.refl _ s with alertMask := fun _ hc => absurd rfl (hc _ _ _) }
  | alertClear p h m =>
    refine frame_manage rfl
      (fun s => Frame.trans (t := { s with alerts := s.alerts &&& ~~~m }) ?_ (frame_respond _ _ _ _ _ _)) ht
    exact { Frame.refl _ s with }
  | start p h =>
    refine frame_manage rfl (fun s => ?_) ht
    split
    · refine Frame.trans (t := { s with mode := .run }) ?_ (frame_respond _ _ _ _ _ _)
      exact { Frame.refl _ s with mode := fun _ hc => absurd rfl (hc _ _) }
    · exact frame_respond _ _ _ _ _ _
  | softReset p h =>
    refine frame_manage rfl (fun s => ?_) ht
    split
    · exact frame_respond _ _ _ _ _ _
    · exact (frame_softResetState p h s).trans (frame_respond _ _ _ _ _ _)
  | clearContainment p h =>
    refine frame_manage rfl (fun s => ?_) ht
    split
    · exact frame_respond _ _ _ _ _ _
    · split
      · exact frame_respond _ _ _ _ _ _
      · exact (frame_clearContainmentState p h s).trans (frame_respond _ _ _ _ _ _)
  | burstCompletion r dev => exact frame_burstCompletion ht
  | readyTimeout r moved => exact frame_readyTimeout ht
  | abandonedBurstEnd r release => exact frame_abandonedBurstEnd ht
  | settleExpiry r => exact frame_settleExpiry ht
  | patrolIntervalExpiry => exact frame_patrolIntervalExpiry ht
  | strobeSample input level => exact frame_strobeSample ht
  | stepTimerExpiry => exact frame_stepTimerExpiry ht

/-- Settles O53: DEVICE_RESET keeps the queue of commands, and every other command its frame. -/
theorem unchangedByOtherCommands : Obligations.UnchangedByOtherCommands := by
  intro c s t ht
  by_cases hc : c = .deviceReset
  · subst hc
    obtain rfl := Host.Outcome.next.inj ht
    exact ⟨rfl, nofun, fun h => absurd rfl h⟩
  · have f := frame_exec hc ht
    exact ⟨f.pending, f.mem, fun _ => ⟨f.sources, f.segments, f.clock, f.timing,
      fun h r => (f.patrol h r).imp And.left And.left, f.patrolInterval, f.alertMask, f.checks, f.enables,
      fun h => ⟨f.accPtr h, f.ingress h⟩, f.mode⟩⟩

/-- Settles O54: a device reset lands the bursts on memory, which keeps the canonical form, and so does every frame. -/
theorem memoryCanonicalKept : Obligations.MemoryCanonicalKept := by
  intro s t
  refine step_keeps (P := fun s => s.mem.wf = true) (fun _ _ => id) fun c s t hs ht => ?_
  by_cases hc : c = .deviceReset
  · subst hc
    exact Host.Outcome.next.inj ht ▸ wf_memAfterReset hs
  · exact (frame_exec hc ht).canonical hs

/-- Settles O58: a device reset empties the queues, and every other command keeps their bounds. -/
theorem queueBoundsKept : Obligations.QueueBoundsKept := by
  intro s t
  refine step_keeps (P := QueueBounds) (fun _ _ => id) fun c s t hs ht => ?_
  by_cases hc : c = .deviceReset
  · subst hc
    exact Host.Outcome.next.inj ht ▸ fun p => by cases p <;> exact ⟨Nat.zero_le _, Nat.zero_le _⟩
  · exact (frame_exec hc ht).bounds hs

end Sys2Proof.Machine

/-!
What every event keeps. `InvariantRules Q P R` lists the steps of which every event is made: where each of them keeps `P`, an
event that begins in `Q` ends in `R`. `P` holds inside an event, `Q` before it and `R` after it. The case analysis over the
commands is made once, in `InvariantRules.exec`; an invariant is then a proof of its rules.
-/

namespace Sys2Proof.Machine

/-! ## The contexts that admission makes -/

/-- A new context for a request that has passed the checks on its operands and its segment (R14, R43, R110, R128). -/
inductive AdmittedContext (s : State) : Context → Prop
  | access (p : Port) (h : Hdr) (k : ReqKind) (seg : SegNo) (eff ring : Ring) (f n : Nat) (pl : List Word)
      (kind : k = .read ∨ k = .write ∨ k = .compareSwap) (passed : translateRequest (s.segment seg) k eff f n = none) :
      AdmittedContext s (accessContext p h k (s.segment seg) eff ring f n pl)
  | journal (p : Port) (h : Hdr) (k : ReqKind) (seg : SegNo) (eff ring : Ring) (f : Nat) (pl : List Word)
      (kind : k = .append ∨ k = .journalRestart) (passed : translateRequest (s.segment seg) k eff f 0 = none) :
      AdmittedContext s (journalContext p h k (s.segment seg) eff ring f pl)
  | cursorStep (p : Port) (h : Hdr) (k : ReqKind) (idx : Fin 2) (pl : List Word)
      (kind : k = .cursorRead ∨ k = .cursorWrite) (ready : (s.cursor h.src idx).stepRefusal = none)
      (passed : translateRequest (s.segment (s.cursor h.src idx).segment) k (s.cursor h.src idx).ring
        (roundedPos (s.cursor h.src idx).pos (s.cursor h.src idx).size) (s.cursor h.src idx).size = none) :
      AdmittedContext s
        (cursorContext p h k (s.segment (s.cursor h.src idx).segment) idx (s.cursor h.src idx) pl)

theorem accessContext_source (p : Port) (h : Hdr) (k : ReqKind) (d : Descriptor) (eff ring : Ring) (f n : Nat)
    (pl : List Word) : (accessContext p h k d eff ring f n pl).source = h.src := by
  unfold accessContext
  dsimp only
  split <;> rfl

/-- A frame that joins a port and a release of a context do not meet. -/
theorem join_release (s : State) (p : Port) (f : List Word) (i : CtxId) :
    (s.join p f).release i = (s.release i).join p f := rfl

theorem foldl_keeps {P : State → Prop} {α : Type} {f : State → α → State} (hf : ∀ s a, P s → P (f s a)) (l : List α)
    {s : State} (h : P s) : P (l.foldl f s) := by
  induction l generalizing s with
  | nil => exact h
  | cons a l ih => exact ih (hf s a h)

/-! ## The rules -/

/-- The steps of the events, each of which keeps `P`. -/
structure InvariantRules (Q P R : State → Prop) : Prop where
  /-- An event begins. -/
  begins : ∀ s, Q s → P s
  /-- An event that does not occur. -/
  idle : ∀ s, Q s → R s
  /-- An event ends with the grant of the pins (R71). -/
  ends : ∀ s, P s → R s.grantPins
  deviceReset : ∀ s t, Q s → exec .deviceReset s = .next t → R t
  /-- The registers of which no rule of the invariants speaks. -/
  registers : ∀ s ptr checks inject alerts raised mask interval, P s →
    P { s with
        accPtr := ptr, checks := checks, inject := inject, alerts := alerts, raised := raised, alertMask := mask,
        patrolInterval := interval }
  /-- A port but its delivery list (R148 to R150). -/
  port : ∀ s p v, v.delivery = (s.port p).delivery → P s → P (s.setPort p v)
  /-- The head of a delivery list is released (R36, R151). -/
  deliver : ∀ s p i rest, (s.port p).delivery = i :: rest → P s →
    P ((s.setPort p { s.port p with delivery := rest }).release i)
  takeFault : ∀ s f, P s → P (s.takeFault f)
  issueCtx : ∀ s r k i, (s.region r).state = .online → (s.region r).burst = none → s.nextTurn r = some (k, i) → P s →
    P (s.issueCtx r k i)
  issuePatrol : ∀ s r pc rest, (s.region r).state = .online → (s.region r).burst = none →
    (s.region r).openPatrol.rest = pc :: rest → P s →
    P (s.setRegion r
      { (s.region r).issue .patrol pc false [] with patrolRead := some { (s.region r).openPatrol with rest := rest } })
  carryOut : ∀ s r, P s → P (s.carryOut r)
  allocate : ∀ s i c, s.mode = .run → AdmittedContext s c → (s.region c.region).state.admitsContexts = true →
    s.count c.source < (s.source c.source).limit → s.freeCtx = some i → P s → P (s.allocate i c)
  cursorSet : ∀ s j k cu, ¬((s.cursor j k).isSet = true ∧ (s.cursor j k).inFlight = true) → cu.isSet = true →
    cu.inFlight = false → P s → P (s.setCursor j k cu)
  storeSource : ∀ s h i f, s.sourceWriteRefusal h i f = none → P s → P (s.storeSource i f)
  storeSegment : ∀ s i d, segmentValid d = true → P s → P (s.storeSegment i d)
  storeClock : ∀ s r g, (s.region r).state.appliesAtOnce = true → P s → P (s.setRegion r ((s.region r).storeClock g))
  storeTiming : ∀ s r g, (s.region r).state.appliesAtOnce = true → P s → P (s.setRegion r ((s.region r).storeTiming g))
  retime : ∀ s r g, (s.region r).state = .online → P s → P (s.retime r g)
  storePatrol : ∀ s r g, validPatrol g = true → P s → P (s.setRegion r ((s.region r).storePatrol g))
  online : ∀ s r t, s.mode ≠ .contained → s.online r = .ok t → P s → P t
  offline : ∀ s r t, s.mode ≠ .contained → s.offline r = .ok t → P s → P t
  parkRegion : ∀ s r t, s.mode ≠ .contained → s.parkRegion r = .ok t → P s → P t
  unpark : ∀ s r t, s.mode ≠ .contained → s.unpark r = .ok t → P s → P t
  train : ∀ s r t, s.mode ≠ .contained → s.train r = .ok t → P s → P t
  start : ∀ s, s.mode = .config → P s → P { s with mode := .run }
  softReset : ∀ s, s.mode ≠ .contained → P s → P s.softReset
  clearContainment : ∀ s, s.mode = .contained → s.poisonedSize = 0 → P s → P s.clearContainment
  burstMoved : ∀ s r b taken, (s.region r).burst = some b → s.pins = some r → Q s → P (s.burstMoved r b taken)
  contextCompletion : ∀ s r b i taken ws, (s.region r).burst = some b → b.abandoned = false → b.owner = .ctx i →
    s.pins = some r → Q s → P ((s.burstMoved r b taken).contextCompletion i b ws)
  patrolCompletion : ∀ s r b taken words, (s.region r).burst = some b → b.abandoned = false → s.pins = some r → Q s →
    P ((s.burstMoved r b taken).patrolCompletion r words)
  timeOut : ∀ s r b moved, (s.region r).burst = some b → b.abandoned = false → s.pins = some r →
    (s.region r).state = .online ∨ (s.region r).state = .quiescing → Q s → P (s.timeOut r b moved)
  settleExpiry : ∀ s r, (s.region r).state = .settling → P s →
    P (s.setRegion r { s.region r with state := .online, settle := none })
  markDue : ∀ s r, P s → P (s.markDue r)
  recordSample : ∀ s r t u, s.holder = some r → (s.region r).training = some t → Q s → P (s.recordSample r u)
  failTraining : ∀ s r t, s.holder = some r → (s.region r).training = some t → Q s → P (s.failTraining r)

namespace InvariantRules

variable {Q P R : State → Prop} (K : InvariantRules Q P R)
include K

/-! ## Shared operations -/

theorem inject {s : State} (x : Injection) (h : P s) : P { s with inject := x } :=
  K.registers s s.accPtr s.checks x s.alerts s.raised s.alertMask s.patrolInterval h

theorem clearRaised {s : State} (h : P s) : P { s with raised := 0 } :=
  K.registers s s.accPtr s.checks s.inject s.alerts 0 s.alertMask s.patrolInterval h

theorem raise {s : State} (f : AlertFlag) (h : P s) : P (s.raise f) :=
  K.registers s s.accPtr s.checks s.inject _ _ s.alertMask s.patrolInterval h

theorem faultAt {s : State} (k : CheckKind) (f : FaultItem) (h : P s) : P (s.faultAt k f) :=
  K.takeFault _ f (K.inject _ h)

theorem trySend {s : State} (p : Port) (h : P s) : P (s.trySend p) := by
  refine K.port s p _ ?_ h
  unfold PortState.trySend
  split
  · rfl
  · split <;> rfl

theorem join {s : State} (p : Port) (f : List Word) (h : P s) : P (s.join p f) := K.trySend p (K.port s p _ rfl h)

theorem signal {s : State} (p : Port) (x : Signal) (h : P s) : P (s.signal p x) := K.port s p _ rfl h

theorem respond {s : State} (p : Port) (h : Hdr) (code : Nat) (st : Status) (ws : List Word) (hs : P s) :
    P (s.respond p h code st ws) := by
  unfold State.respond
  split
  · split
    · exact K.faultAt _ _ hs
    · exact K.join p _ hs
  · exact hs

theorem serveHead {s : State} (p : Port) (h : P s) : P (s.serveHead p) := by
  unfold State.serveHead
  split
  · exact h
  · rename_i i rest hl
    have delivered := K.deliver s p i rest hl h
    dsimp only
    split
    · exact K.faultAt _ _ delivered
    · split
      · exact K.faultAt _ _ delivered
      · rw [join_release]
        exact K.join p _ delivered

theorem serveFuel (n : Nat) {s : State} (h : P s) : P (State.serveFuel n s) := by
  induction n generalizing s with
  | zero => exact h
  | succ n ih =>
    unfold State.serveFuel
    split
    · exact ih (K.serveHead _ h)
    · exact h

theorem serveAll {s : State} (h : P s) : P s.serveAll := K.serveFuel 32 h

theorem offerTo {s : State} (i : SourceId) (h : P s) : P (s.offerTo i) := by
  unfold State.offerTo State.offerAlert
  dsimp only
  split
  · exact K.serveAll (K.faultAt _ _ h)
  · split
    · split
      · split
        · exact K.serveAll (K.faultAt _ _ h)
        · exact K.join _ _ h
      · exact h
    · exact h

theorem rounds {s : State} (h : P s) : P s.rounds := by
  have offered (n : Nat) {s : State} (h : P s) : P (State.offerFuel n s) := by
    induction n generalizing s with
    | zero => exact K.clearRaised h
    | succ n ih =>
      unfold State.offerFuel
      split
      · exact ih (foldl_keeps (fun _ i => K.offerTo i) _ (K.clearRaised h))
      · exact K.clearRaised h
  exact offered 3 (K.serveAll h)

theorem finish {s : State} (h : P s) : R s.finish := K.ends _ (K.rounds h)

theorem takeTurn {s : State} (r : RegionId) (h : P s) : P (s.takeTurn r) := by
  unfold State.takeTurn State.turnPatrol State.turnCtx
  dsimp only
  split
  · rename_i free
    split
    · split
      · exact K.faultAt _ _ h
      · split
        · exact h
        · rename_i pc rest hl
          exact K.issuePatrol s r pc rest free.1 free.2 hl h
    · split
      · rename_i k i hn
        split
        · exact K.faultAt _ _ h
        · split
          · exact K.faultAt _ _ h
          · exact K.issueCtx s r k i free.1 free.2 hn h
      · exact h
  · exact h

theorem takeTurns {s : State} (l : List RegionId) (h : P s) : P (s.takeTurns l) := foldl_keeps (fun _ r => K.takeTurn r) l h

theorem afterBurst {s : State} (r : RegionId) (moved : List RegionId) (h : P s) : P (s.afterBurst r moved) :=
  K.takeTurns _ (K.serveAll (K.carryOut s r h))

/-! ## Acceptance -/

theorem takeFrame {s : State} (p : Port) (h : P s) : P (s.takeFrame p) := by
  have taken : P { s.setPort p { s.port p with ingress := (s.port p).ingress.tail } with accPtr := portAfter p } :=
    K.registers _ (portAfter p) _ _ _ _ _ _ (K.port s p _ rfl h)
  unfold State.takeFrame
  dsimp only
  split
  · exact K.signal p _ taken
  · exact taken

theorem next {s t : State} {c : Instr} {p : Port} {body : State → State} (hb : ∀ s, P s → P (body s)) (h : Q s)
    (ht : (.next (s.accept c p body) : Host.Outcome State Fault Refusal) = .next t) : R t := by
  obtain rfl := Host.Outcome.next.inj ht
  unfold State.accept
  split
  · exact K.finish (hb _ (K.takeFrame p (K.begins s h)))
  · exact K.idle s h

theorem acceptManage {body : State → State} (hb : ∀ s, P s → P (body s)) (p : Port) (h : Hdr) (code : Nat) (s : State)
    (hs : P s) : P (s.acceptManage p h code body) := by
  unfold State.acceptManage
  split
  · exact K.respond _ _ _ _ _ (K.faultAt _ _ hs)
  · split
    · exact K.respond _ _ _ _ _ hs
    · split
      · exact hb s hs
      · exact K.respond _ _ _ _ _ hs

/-- The body of a data request is run in RUN alone (R22). -/
theorem acceptData {body : State → State} (hb : ∀ s, s.mode = .run → P s → P (body s)) (p : Port) (h : Hdr) (code : Nat)
    (s : State) (hs : P s) : P (s.acceptData p h code body) := by
  unfold State.acceptData
  split
  · exact K.respond _ _ _ _ _ (K.faultAt _ _ hs)
  · split
    · exact K.respond _ _ _ _ _ hs
    · rename_i passed
      refine hb s ?_ hs
      unfold State.checkMode at passed
      cases hm : s.mode <;> simp [hm] at passed ⊢

theorem onSegment {body : Descriptor → State → State} {s : State} {k : ReqKind} {seg : SegNo} {ring : Ring} {f n : Nat}
    (hb : translateRequest (s.segment seg) k ring f n = none → P (body (s.segment seg) s)) (p : Port) (h : Hdr)
    (code : Nat) (hs : P s) : P (s.onSegment p h code seg k ring f n body) := by
  unfold State.onSegment
  split
  · exact K.respond _ _ _ _ _ (K.faultAt _ _ hs)
  · split
    · exact K.respond _ _ _ _ _ hs
    · rename_i passed
      exact hb passed

theorem admission {s : State} {p : Port} {h : Hdr} {code : Nat} {c : Context} (source : c.source = h.src)
    (run : s.mode = .run) (admitted : AdmittedContext s c) (hs : P s) : P (s.admission p h code c) := by
  unfold State.admission
  split
  · exact K.respond _ _ _ _ _ hs
  · rename_i region
    split
    · exact K.respond _ _ _ _ _ hs
    · rename_i room
      split
      · exact K.respond _ _ _ _ _ hs
      · rename_i i free
        refine K.takeTurn _ (K.allocate s i c run admitted (Bool.not_eq_false _ ▸ region) ?_ free hs)
        rw [source]
        omega

theorem acceptAccess (p : Port) (h : Hdr) (k : ReqKind) (seg : SegNo) (ring : Ring) (f n : Nat) (pl : List Word)
    (kind : k = .read ∨ k = .write ∨ k = .compareSwap) (s : State) (hs : P s) :
    P (s.acceptAccess p h k seg ring f n pl) :=
  K.acceptData (fun _ run hs => K.onSegment (fun passed => K.admission (accessContext_source ..) run
    (.access p h k seg _ ring f n pl kind passed) hs) p h _ hs) p h _ s hs

theorem acceptJournal (p : Port) (h : Hdr) (k : ReqKind) (seg : SegNo) (ring : Ring) (f : Nat) (pl : List Word)
    (kind : k = .append ∨ k = .journalRestart) (s : State) (hs : P s) : P (s.acceptJournal p h k seg ring f pl) :=
  K.acceptData (fun _ run hs => K.onSegment (fun passed => K.admission rfl run
    (.journal p h k seg _ ring f pl kind passed) hs) p h _ hs) p h _ s hs

theorem acceptCursorStep (p : Port) (h : Hdr) (k : ReqKind) (idx : Fin 2) (pl : List Word)
    (kind : k = .cursorRead ∨ k = .cursorWrite) (s : State) (hs : P s) : P (s.acceptCursorStep p h k idx pl) := by
  refine K.acceptData (fun s run hs => ?_) p h _ s hs
  dsimp only
  split
  · exact K.respond _ _ _ _ _ hs
  · rename_i ready
    exact K.onSegment (fun passed => K.admission rfl run (.cursorStep p h k idx pl kind ready passed) hs) p h _ hs

/-! ## Region commands and port control -/

theorem regionCommand {act : State → RegionId → Except Status State}
    (ha : ∀ s r t, s.mode ≠ .contained → act s r = .ok t → P s → P t)
    (hm : ∀ s r t, act s r = .ok t → t.mode = s.mode) (p : Port) (h : Hdr) (mask : BitVec 8) (s : State) (hs : P s) :
    P (s.regionCommand p h act mask) := by
  have visited (l : List RegionId) (x : Progress) (live : x.state.mode ≠ .contained) (hx : P x.state) :
      P (l.foldl (Progress.visit act) x).state := by
    induction l generalizing x with
    | nil => exact hx
    | cons r l ih =>
      unfold Progress.visit at ih ⊢
      rw [List.foldl_cons]
      split
      · rename_i t ht
        exact ih { x with state := t, taken := x.taken ++ [r] } (hm _ _ _ ht ▸ live) (ha _ _ _ live ht hx)
      · exact ih { x with reasons := _ } live hx
  unfold State.regionCommand
  split
  · exact K.respond _ _ _ _ _ hs
  · rename_i live
    exact K.respond _ _ _ _ _ (visited _ _ live hs)

theorem enablePort (rx tx : BitVec 4) (s : State) (p : Port) (hs : P s) : P (State.enablePort rx tx s p) := by
  have receiver {s : State} (hs : P s) : P (s.enableReceiver p) := by
    unfold State.enableReceiver
    split
    · exact hs
    · exact K.signal p _ (K.port s p _ rfl hs)
  have transmitter {s : State} (hs : P s) : P (s.enableTransmitter p) := by
    unfold State.enableTransmitter
    split
    · exact hs
    · exact K.trySend p (K.port s p _ rfl hs)
  have received : P (if portItem rx p then s.enableReceiver p else s) := by
    split
    · exact receiver hs
    · exact hs
  unfold State.enablePort
  dsimp only
  split
  · exact transmitter received
  · exact received

/-- A transmitter that is disabled releases the contexts of its delivery list one by one (R152). -/
theorem closeTransmitter (l : List CtxId) {s : State} {p : Port} (hl : (s.port p).delivery = l) (hs : P s) :
    P ((s.setPort p { s.port p with txOn := false, egress := [], delivery := [] }).releaseAll l) := by
  induction l generalizing s with
  | nil => exact K.port s p _ hl.symm hs
  | cons i l ih =>
    have released := ih (s := (s.setPort p { s.port p with delivery := l }).release i)
      (by rw [show ((s.setPort p { s.port p with delivery := l }).release i).port p =
            (s.setPort p { s.port p with delivery := l }).port p from rfl, port_setPort]) (K.deliver s p i l hl hs)
    have same : ((s.setPort p { s.port p with delivery := l }).release i).setPort p
          { ((s.setPort p { s.port p with delivery := l }).release i).port p with
            txOn := false, egress := [], delivery := [] } =
        (s.setPort p { s.port p with txOn := false, egress := [], delivery := [] }).release i := by
      cases p <;> rfl
    rwa [same] at released

theorem disablePort (rx tx : BitVec 4) (s : State) (p : Port) (hs : P s) : P (State.disablePort rx tx s p) := by
  have received : P (if portItem rx p then s.disableReceiver p else s) := by
    split
    · exact K.port s p _ rfl hs
    · exact hs
  have transmitter {s : State} (hs : P s) : P (s.disableTransmitter p) := by
    unfold State.disableTransmitter
    split
    · exact K.closeTransmitter _ rfl hs
    · exact hs
  unfold State.disablePort
  dsimp only
  split
  · exact transmitter received
  · exact received

/-! ## Bursts -/

theorem completeBurst {s : State} {r : RegionId} {b : Burst} {taken : Nat → Bool} (samples : List (Nat × Word × Bool))
    (hb : (s.region r).burst = some b) (flying : b.abandoned = false) (pins : s.pins = some r) (hs : Q s) :
    P ((s.burstMoved r b taken).completeBurst r b samples) := by
  unfold State.completeBurst
  split
  · exact K.faultAt _ _ (K.burstMoved s r b taken hb pins hs)
  · split
    · rename_i i owner
      exact K.afterBurst r _ (K.contextCompletion s r b i taken _ hb flying owner pins hs)
    · exact K.afterBurst r _ (K.patrolCompletion s r b taken _ hb flying pins hs)

theorem endAbandoned {s : State} {r : RegionId} {b : Burst} (taken : Nat → Bool) (hb : (s.region r).burst = some b)
    (pins : s.pins = some r) (hs : Q s) : P (s.endAbandoned r b taken) :=
  K.afterBurst r _ (K.burstMoved s r b taken hb pins hs)

end InvariantRules

end Sys2Proof.Machine

namespace Sys2Proof.Machine

/-! ## The mode under a region command -/

theorem mode_endCtx (s : State) (i : CtxId) (st : Status) (ws : List Word) : (s.endCtx i st ws).mode = s.mode := by
  unfold State.endCtx State.handOver State.clearMarker
  dsimp only
  split <;> split <;> rfl

theorem mode_endAll (s : State) (l : List CtxId) (st : Status) : (s.endAll l st).mode = s.mode := by
  unfold State.endAll
  induction l generalizing s with
  | nil => rfl
  | cons i l ih => exact (ih _).trans (mode_endCtx s i _ _)

theorem mode_enterOffline (s : State) (r : RegionId) : (s.enterOffline r).mode = s.mode := mode_endAll s _ _

theorem mode_releaseInputs (s : State) : s.releaseInputs.mode = s.mode := by
  unfold State.releaseInputs
  split <;> rfl

theorem mode_becomeReady (s : State) (r : RegionId) : (s.becomeReady r).mode = s.mode := by
  unfold State.becomeReady
  split <;> rfl

theorem mode_online {s t : State} {r : RegionId} (h : s.online r = .ok t) : t.mode = s.mode := by
  unfold State.online at h
  dsimp only at h
  split at h
  · split at h
    · exact Except.ok.inj h ▸ rfl
    · cases h
  · cases h

theorem mode_leaveInputs (s : State) (r : RegionId) : (s.leaveInputs r).mode = s.mode := by
  unfold State.leaveInputs
  split
  · exact mode_releaseInputs s
  · rfl

theorem mode_offline {s t : State} {r : RegionId} (h : s.offline r = .ok t) : t.mode = s.mode := by
  unfold State.offline at h
  dsimp only at h
  split at h
  case h_1 => exact Except.ok.inj h ▸ (mode_enterOffline _ r).trans (mode_leaveInputs _ r)
  case h_2 => exact Except.ok.inj h ▸ mode_enterOffline s r
  case h_3 => exact Except.ok.inj h ▸ mode_enterOffline s r
  case h_4 =>
    obtain rfl := Except.ok.inj h
    split
    · rfl
    · exact mode_enterOffline s r
  case h_5 => exact Except.ok.inj h ▸ rfl
  case h_6 => cases h
  case h_7 => cases h

theorem mode_parkRegion {s t : State} {r : RegionId} (h : s.parkRegion r = .ok t) : t.mode = s.mode := by
  unfold State.parkRegion at h
  dsimp only at h
  split at h
  · exact Except.ok.inj h ▸ rfl
  all_goals cases h

theorem mode_unpark {s t : State} {r : RegionId} (h : s.unpark r = .ok t) : t.mode = s.mode := by
  unfold State.unpark at h
  dsimp only at h
  split at h
  · obtain rfl := Except.ok.inj h
    split
    · rfl
    · exact mode_enterOffline s r
  · cases h

theorem mode_train {s t : State} {r : RegionId} (h : s.train r = .ok t) : t.mode = s.mode := by
  unfold State.train at h
  dsimp only at h
  split at h
  · split at h
    · cases h
    · split at h
      · cases h
      · exact Except.ok.inj h ▸ mode_becomeReady _ r
  · cases h

/-! ## Every command -/

namespace InvariantRules

variable {Q P R : State → Prop} (K : InvariantRules Q P R)
include K

theorem manage {s t : State} {c : Instr} {p : Port} {h : Hdr} {code : Nat} {body : State → State}
    (hb : ∀ s, P s → P (body s)) (hs : Q s)
    (ht : (.next (s.accept c p fun s => s.acceptManage p h code body) : Host.Outcome State Fault Refusal) = .next t) :
    R t := K.next (K.acceptManage hb p h code) hs ht

theorem burstCompletion {s t : State} {r : RegionId} {dev : List BusDeviation} (hs : Q s)
    (ht : exec (.burstCompletion r dev) s = .next t) : R t := by
  rw [exec_burstCompletion, execBurstCompletion] at ht
  split at ht
  · exact Host.Outcome.next.inj ht ▸ K.idle s hs
  · rename_i b hb
    split at ht
    · exact Host.Outcome.next.inj ht ▸ K.idle s hs
    · rename_i falls
      split at ht
      · cases ht
      · obtain rfl := Host.Outcome.next.inj ht
        rw [not_or, Bool.not_eq_true, not_not] at falls
        exact K.finish (K.completeBurst _ hb falls.1 falls.2 hs)

theorem readyTimeout {s t : State} {r : RegionId} {moved : Nat} (hs : Q s)
    (ht : exec (.readyTimeout r moved) s = .next t) : R t := by
  rw [exec_readyTimeout, execReadyTimeout] at ht
  split at ht
  · exact Host.Outcome.next.inj ht ▸ K.idle s hs
  · rename_i b hb
    split at ht
    · exact Host.Outcome.next.inj ht ▸ K.idle s hs
    · rename_i falls
      have pins : s.pins = some r := by
        by_contra h
        exact falls (.inr h)
      split at ht
      · cases ht
      · split at ht
        · exact Host.Outcome.next.inj ht ▸ K.finish (K.endAbandoned _ hb pins hs)
        · rename_i flying
          split at ht
          · rename_i state
            exact Host.Outcome.next.inj ht ▸
              K.finish (K.timeOut s r b moved hb (Bool.not_eq_true _ ▸ flying) pins state hs)
          · exact Host.Outcome.next.inj ht ▸ K.idle s hs

theorem abandonedBurstEnd {s t : State} {r : RegionId} {release : Option Nat} (hs : Q s)
    (ht : exec (.abandonedBurstEnd r release) s = .next t) : R t := by
  rw [exec_abandonedBurstEnd, execAbandonedBurstEnd] at ht
  split at ht
  · exact Host.Outcome.next.inj ht ▸ K.idle s hs
  · rename_i b hb
    split at ht
    · exact Host.Outcome.next.inj ht ▸ K.idle s hs
    · rename_i falls
      have pins : s.pins = some r := by
        by_contra h
        exact falls (.inr h)
      split at ht
      · cases ht
      · split at ht
        · exact Host.Outcome.next.inj ht ▸ K.finish (K.endAbandoned _ hb pins hs)
        · split at ht
          · exact Host.Outcome.next.inj ht ▸ K.finish (K.endAbandoned _ hb pins hs)
          · exact Host.Outcome.next.inj ht ▸ K.idle s hs

theorem timers {s t : State} {r : RegionId} (hs : Q s)
    (ht : exec (.settleExpiry r) s = .next t ∨ exec .patrolIntervalExpiry s = .next t) : R t := by
  obtain ht | ht := ht
  · obtain rfl := Host.Outcome.next.inj ht
    split
    · rename_i settling
      exact K.finish (K.takeTurn r (K.settleExpiry s r settling (K.begins s hs)))
    · exact K.idle s hs
  · obtain rfl := Host.Outcome.next.inj ht
    split
    · exact K.finish (K.takeTurns _ (foldl_keeps K.markDue _ (K.begins s hs)))
    · exact K.idle s hs

theorem strobeSample {s t : State} {input : Fin 4} {level : Bool} (hs : Q s)
    (ht : exec (.strobeSample input level) s = .next t) : R t := by
  obtain rfl := Host.Outcome.next.inj ht
  split
  · exact K.idle s hs
  · rename_i r holder
    split
    · exact K.idle s hs
    · rename_i u training
      split
      · exact K.finish (K.recordSample s r u _ holder training hs)
      · exact K.idle s hs

theorem stepTimerExpiry {s t : State} (hs : Q s) (ht : exec .stepTimerExpiry s = .next t) : R t := by
  obtain rfl := Host.Outcome.next.inj ht
  split
  · exact K.idle s hs
  · rename_i r holder
    split
    · exact K.idle s hs
    · rename_i u training
      split
      · exact K.finish (K.failTraining s r u holder training hs)
      · exact K.idle s hs

theorem frameArrival {s t : State} {p : Port} {ws : List Word} {ragged : Bool} (hs : Q s)
    (ht : exec (.frameArrival p ws ragged) s = .next t) : R t := by
  obtain rfl := Host.Outcome.next.inj ht
  refine K.finish ?_
  have h := K.begins s hs
  unfold State.arrive
  dsimp only
  split
  · exact h
  · split
    · refine K.raise _ ?_
      split
      · exact K.signal p _ h
      · exact h
    · split
      · exact K.raise _ h
      · exact K.port s p _ rfl h

theorem frameSent {s t : State} {p : Port} (hs : Q s) (ht : exec (.frameSent p) s = .next t) : R t := by
  obtain rfl := Host.Outcome.next.inj ht
  split
  · exact K.finish (K.trySend p (K.port s p _ rfl (K.begins s hs)))
  · exact K.idle s hs

theorem undecodableFrame {s t : State} {p : Port} {ws : List Word} (hs : Q s)
    (ht : exec (.undecodableFrame p ws) s = .next t) : R t := by
  refine K.next (fun s hs => ?_) hs ht
  split
  · exact K.acceptManage (fun s => K.respond _ _ _ _ _) p _ _ s hs
  · exact K.respond _ _ _ _ _ hs

theorem cursorSetCommand {s t : State} {p : Port} {h : Hdr} {cur : Fin 2} {seg : SegNo} {ring : Ring}
    {pos count size : Nat} (hs : Q s) (ht : exec (.cursorSet p h cur seg ring pos count size) s = .next t) : R t := by
  refine K.next (K.acceptData (fun s _ hs => ?_) p h 8) hs ht
  split
  · exact K.respond _ _ _ _ _ hs
  · rename_i idle
    split
    · exact K.respond _ _ _ _ _ (K.faultAt _ _ hs)
    · split
      · exact K.respond _ _ _ _ _ hs
      · exact K.respond _ _ _ _ _ (K.cursorSet s _ _ _ (by rwa [Bool.and_eq_true] at idle) rfl rfl hs)

theorem sourceWrite {s t : State} {p : Port} {h : Hdr} {idx : Nat} {f : SourceFields} (hs : Q s)
    (ht : exec (.sourceWrite p h idx f) s = .next t) : R t := by
  refine K.manage (fun s hs => ?_) hs ht
  split
  · exact K.respond _ _ _ _ _ hs
  · rename_i i _
    split
    · exact K.respond _ _ _ _ _ hs
    · rename_i taken
      exact K.respond _ _ _ _ _ (K.storeSource s h i f taken hs)

theorem segmentWrite {s t : State} {p : Port} {h : Hdr} {seg : Nat} {d : SegOperands} (hs : Q s)
    (ht : exec (.segmentWrite p h seg d) s = .next t) : R t := by
  refine K.manage (fun s hs => ?_) hs ht
  split
  · exact K.respond _ _ _ _ _ hs
  · split
    · rename_i valid
      exact K.respond _ _ _ _ _ (K.storeSegment s _ d valid hs)
    · exact K.respond _ _ _ _ _ hs

/-- SOURCE_READ, SEGMENT_READ and PROFILE_READ change nothing but by a fault that they find. -/
theorem reads {s t : State} {p : Port} {h : Hdr} {idx : Nat} (hs : Q s)
    (ht : exec (.sourceRead p h idx) s = .next t ∨ exec (.segmentRead p h idx) s = .next t ∨
      exec (.profileRead p h idx) s = .next t) : R t := by
  obtain ht | ht | ht := ht
  all_goals
    refine K.manage (fun s hs => ?_) hs ht
    split
    · exact K.respond _ _ _ _ _ hs
    · split
      · exact K.respond _ _ _ _ _ hs
      · split
        · exact K.respond _ _ _ _ _ (K.faultAt _ _ hs)
        · exact K.respond _ _ _ _ _ hs

theorem profileWriteClock {s t : State} {p : Port} {h : Hdr} {region : Nat} {g : ClockGroup} (hs : Q s)
    (ht : exec (.profileWriteClock p h region g) s = .next t) : R t := by
  refine K.manage (fun s hs => ?_) hs ht
  split
  · exact K.respond _ _ _ _ _ hs
  · split
    · exact K.respond _ _ _ _ _ hs
    · split
      · rename_i applies
        exact K.respond _ _ _ _ _ (K.storeClock s _ g applies hs)
      · exact K.respond _ _ _ _ _ hs

theorem profileWriteTiming {s t : State} {p : Port} {h : Hdr} {region : Nat} {g : TimingGroup} (hs : Q s)
    (ht : exec (.profileWriteTiming p h region g) s = .next t) : R t := by
  refine K.manage (fun s hs => ?_) hs ht
  split
  · exact K.respond _ _ _ _ _ hs
  · split
    · exact K.respond _ _ _ _ _ hs
    · split
      · rename_i applies
        exact K.respond _ _ _ _ _ (K.storeTiming s _ g applies hs)
      · split
        · rename_i online
          exact K.respond _ _ _ _ _ (K.retime s _ g online hs)
        · exact K.respond _ _ _ _ _ hs

theorem profileWritePatrol {s t : State} {p : Port} {h : Hdr} {region : Nat} {g : PatrolGroup} (hs : Q s)
    (ht : exec (.profileWritePatrol p h region g) s = .next t) : R t := by
  refine K.manage (fun s hs => ?_) hs ht
  split
  · exact K.respond _ _ _ _ _ hs
  · split
    · exact K.respond _ _ _ _ _ hs
    · rename_i valid
      exact K.respond _ _ _ _ _ (K.storePatrol s _ g (Bool.not_eq_false _ ▸ valid) hs)

/-- A management request that writes registers alone, and answers. -/
theorem writesRegisters {s t : State} {c : Instr} {p : Port} {h : Hdr} {code : Nat} {f : State → State} (hs : Q s)
    (hf : ∀ s, ∃ checks inject alerts mask interval, f s =
      { s with checks := checks, inject := inject, alerts := alerts, alertMask := mask, patrolInterval := interval })
    (ht : (.next (s.accept c p fun s => s.acceptManage p h code fun s => (f s).respond p h code .ok []) :
      Host.Outcome State Fault Refusal) = .next t) : R t := by
  refine K.manage (fun s hs => K.respond _ _ _ _ _ ?_) hs ht
  obtain ⟨checks, inject, alerts, mask, interval, h⟩ := hf s
  exact h ▸ K.registers s s.accPtr checks inject alerts s.raised mask interval hs

theorem checkControlInject {s t : State} {p : Port} {h : Hdr} {check : Nat} (hs : Q s)
    (ht : exec (.checkControlInject p h check) s = .next t) : R t := by
  refine K.manage (fun s hs => ?_) hs ht
  split
  · exact K.respond _ _ _ _ _ hs
  · split
    · exact K.respond _ _ _ _ _ hs
    · exact K.inject _ (K.respond _ _ _ _ _ hs)

theorem modes {s t : State} {p : Port} {h : Hdr} (hs : Q s)
    (ht : exec (.start p h) s = .next t ∨ exec (.softReset p h) s = .next t ∨
      exec (.clearContainment p h) s = .next t) : R t := by
  obtain ht | ht | ht := ht <;> refine K.manage (fun s hs => ?_) hs ht <;> split
  · rename_i config
    exact K.respond _ _ _ _ _ (K.start s config hs)
  · exact K.respond _ _ _ _ _ hs
  · exact K.respond _ _ _ _ _ hs
  · rename_i live
    exact K.respond _ _ _ _ _ (K.softReset s live hs)
  · exact K.respond _ _ _ _ _ hs
  · rename_i contained
    split
    · exact K.respond _ _ _ _ _ hs
    · rename_i clean
      exact K.respond _ _ _ _ _ (K.clearContainment s (not_not.mp contained) (not_not.mp clean) hs)

/-- An event that begins in `Q` ends in `R`. -/
theorem exec {c : Instr} {s t : State} (hs : Q s) (ht : exec c s = .next t) : R t := by
  cases c with
  | deviceReset => exact K.deviceReset s t hs ht
  | frameArrival p ws ragged => exact K.frameArrival hs ht
  | linkCredit p => exact Host.Outcome.next.inj ht ▸ K.finish (K.trySend p (K.port s p _ rfl (K.begins s hs)))
  | partnerCreditRestore p n => exact Host.Outcome.next.inj ht ▸ K.finish (K.trySend p (K.port s p _ rfl (K.begins s hs)))
  | frameSent p => exact K.frameSent hs ht
  | undecodableFrame p ws => exact K.undecodableFrame hs ht
  | read p h seg ring off len => exact K.next (K.acceptAccess p h _ seg ring off len _ (.inl rfl)) hs ht
  | write p h seg ring off len pl => exact K.next (K.acceptAccess p h _ seg ring off len _ (.inr (.inl rfl))) hs ht
  | compareSwap p h seg ring off e n => exact K.next (K.acceptAccess p h _ seg ring off _ _ (.inr (.inr rfl))) hs ht
  | append p h seg ring pl => exact K.next (K.acceptJournal p h _ seg ring _ pl (.inl rfl)) hs ht
  | journalRestart p h seg ring f => exact K.next (K.acceptJournal p h _ seg ring f _ (.inr rfl)) hs ht
  | cursorSet p h cur seg ring pos count size => exact K.cursorSetCommand hs ht
  | cursorRead p h cur => exact K.next (K.acceptCursorStep p h _ cur _ (.inl rfl)) hs ht
  | cursorWrite p h cur lo hi => exact K.next (K.acceptCursorStep p h _ cur _ (.inr rfl)) hs ht
  | cursorQuery p h cur => exact K.next (K.acceptData (fun s _ => K.respond _ _ _ _ _) p h 11) hs ht
  | sourceWrite p h idx f => exact K.sourceWrite hs ht
  | sourceRead p h idx => exact K.reads hs (.inl ht)
  | segmentWrite p h seg d => exact K.segmentWrite hs ht
  | segmentRead p h seg => exact K.reads hs (.inr (.inl ht))
  | profileWriteClock p h r g => exact K.profileWriteClock hs ht
  | profileWriteTiming p h r g => exact K.profileWriteTiming hs ht
  | profileWritePatrol p h r g => exact K.profileWritePatrol hs ht
  | profileRead p h r => exact K.reads hs (.inr (.inr ht))
  | regionCommandOnline p h m => exact K.manage (K.regionCommand K.online (fun _ _ _ => mode_online) p h m) hs ht
  | regionCommandOffline p h m => exact K.manage (K.regionCommand K.offline (fun _ _ _ => mode_offline) p h m) hs ht
  | regionCommandPark p h m => exact K.manage (K.regionCommand K.parkRegion (fun _ _ _ => mode_parkRegion) p h m) hs ht
  | regionCommandUnpark p h m => exact K.manage (K.regionCommand K.unpark (fun _ _ _ => mode_unpark) p h m) hs ht
  | regionCommandTrain p h m => exact K.manage (K.regionCommand K.train (fun _ _ _ => mode_train) p h m) hs ht
  | portControlEnable p h rx tx =>
    exact K.manage (fun s hs => K.respond _ _ _ _ _ (foldl_keeps (K.enablePort rx tx) _ hs)) hs ht
  | portControlDisable p h rx tx =>
    refine K.manage (fun s hs => ?_) hs ht
    split
    · exact K.respond _ _ _ _ _ hs
    · exact K.respond _ _ _ _ _ (foldl_keeps (K.disablePort rx tx) _ hs)
  | checkControlEnable p h => exact K.writesRegisters hs (fun s => ⟨_, _, _, _, _, rfl⟩) ht
  | checkControlDisable p h => exact K.writesRegisters hs (fun s => ⟨_, _, _, _, _, rfl⟩) ht
  | checkControlInject p h check => exact K.checkControlInject hs ht
  | patrolSet p h v =>
    refine K.manage (fun s hs => ?_) hs ht
    split
    · exact K.respond _ _ _ _ _ hs
    · exact K.respond _ _ _ _ _ (K.registers s s.accPtr s.checks s.inject s.alerts s.raised s.alertMask v hs)
  | statusRead p h => exact K.manage (fun s => K.respond _ _ _ _ _) hs ht
  | alertControlEnable p h m => exact K.writesRegisters hs (fun s => ⟨_, _, _, _, _, rfl⟩) ht
  | alertControlDisable p h m => exact K.writesRegisters hs (fun s => ⟨_, _, _, _, _, rfl⟩) ht
  | alertClear p h m => exact K.writesRegisters hs (fun s => ⟨_, _, _, _, _, rfl⟩) ht
  | start p h => exact K.modes hs (.inl ht)
  | softReset p h => exact K.modes hs (.inr (.inl ht))
  | clearContainment p h => exact K.modes hs (.inr (.inr ht))
  | burstCompletion r dev => exact K.burstCompletion hs ht
  | readyTimeout r moved => exact K.readyTimeout hs ht
  | abandonedBurstEnd r release => exact K.abandonedBurstEnd hs ht
  | settleExpiry r => exact K.timers hs (.inl ht)
  | patrolIntervalExpiry => exact K.timers (r := 0) hs (.inr ht)
  | strobeSample input level => exact K.strobeSample hs ht
  | stepTimerExpiry => exact K.stepTimerExpiry hs ht

end InvariantRules

end Sys2Proof.Machine

/-!
Containment (R140, R142, R144). `Steady s t` is what an operation that neither enters nor leaves containment keeps: mode, record
and FAIL pin, a clean poisoned set, no region newly HALTED; and in CONTAINED also every region HALTED and quiet, every context
finished and the strobe-feedback inputs free.
-/

namespace Sys2Proof.Machine

/-! ## The relation -/

/-- A context that is FREE or DONE. -/
def Context.finished (c : Context) : Prop := c.state = .free ∨ c.state = .done

/-- A region changed as containment in the mode `m` allows. -/
structure Region.Steady (m : DeviceMode) (g k : Region) : Prop where
  clean : g.poison.any = false → k.poison.any = false
  entered : k.state = .halted → g.state = .halted
  stays : m = .contained → g.state = .halted → k.state = .halted
  quiet : m = .contained → g.quiet → k.quiet

/-- The state changed without entering or leaving containment, and as it allows. -/
structure Steady (s t : State) : Prop where
  mode : t.mode = s.mode
  record : t.record = s.record
  failPin : t.failPin = s.failPin
  sources : s.poisonedSources = [] → t.poisonedSources = []
  segments : s.poisonedSegments = [] → t.poisonedSegments = []
  regions : ∀ r, (s.region r).Steady s.mode (t.region r)
  finished : s.mode = .contained → ∀ i, (s.ctx i).finished → (t.ctx i).finished
  inputs : s.mode = .contained → s.holder = none ∧ s.waiting = [] → t.holder = none ∧ t.waiting = []

theorem Region.Steady.refl (m : DeviceMode) (g : Region) : g.Steady m g := ⟨id, id, fun _ => id, fun _ => id⟩

/-- A region whose state, poisoned groups and burst stay. -/
theorem Region.Steady.of_eq {m : DeviceMode} {g k : Region} (hp : k.poison = g.poison) (hs : k.state = g.state)
    (hb : k.burst = g.burst) : g.Steady m k := by
  refine ⟨fun h => hp ▸ h, fun h => hs ▸ h, fun _ h => hs ▸ h, fun _ h => ?_⟩
  unfold Region.quiet Region.inFlight at h ⊢
  rwa [hb]

theorem Steady.refl (s : State) : Steady s s :=
  ⟨rfl, rfl, rfl, id, id, fun _ => .refl _ _, fun _ _ => id, fun _ => id⟩

theorem Steady.trans {s t u : State} (a : Steady s t) (b : Steady t u) : Steady s u where
  mode := b.mode.trans a.mode
  record := b.record.trans a.record
  failPin := b.failPin.trans a.failPin
  sources := b.sources ∘ a.sources
  segments := b.segments ∘ a.segments
  regions r :=
    ⟨(b.regions r).clean ∘ (a.regions r).clean, (a.regions r).entered ∘ (b.regions r).entered,
      fun h => (b.regions r).stays (a.mode.trans h) ∘ (a.regions r).stays h,
      fun h => (b.regions r).quiet (a.mode.trans h) ∘ (a.regions r).quiet h⟩
  finished h i := b.finished (a.mode.trans h) i ∘ a.finished h i
  inputs h := b.inputs (a.mode.trans h) ∘ a.inputs h

theorem poisonedSize_eq_zero_iff (s : State) :
    s.poisonedSize = 0 ↔
      s.poisonedSources = [] ∧ s.poisonedSegments = [] ∧ ∀ r, (s.region r).poison.any = false := by
  have regions : (s.regions.toList.filter fun g => g.poison.any).length = 0 ↔ ∀ r, (s.region r).poison.any = false := by
    rw [List.length_eq_zero_iff, List.filter_eq_nil_iff]
    constructor
    · intro h r
      exact Bool.not_eq_true _ ▸ h _ (Vector.mem_toList_iff.mpr (Vector.getElem_mem r.isLt))
    · intro h g hg
      obtain ⟨n, hn, rfl⟩ := Vector.getElem_of_mem (Vector.mem_toList_iff.mp hg)
      exact ne_true_of_eq_false (h ⟨n, hn⟩)
  rw [State.poisonedSize, Nat.add_eq_zero_iff, Nat.add_eq_zero_iff, regions, List.length_eq_zero_iff,
    List.length_eq_zero_iff, and_assoc]

/-- What neither enters nor leaves containment keeps it. -/
theorem ContainmentInv.of_steady {s t : State} (a : Steady s t) (h : ContainmentInv s) : ContainmentInv t where
  fail := by rw [a.failPin, a.mode, h.fail]
  recorded := by rw [a.record, a.mode, h.recorded]
  prior c hc := h.prior c (a.record ▸ hc)
  poison := by
    rw [a.mode]
    refine fun ht => h.poison fun hs => ht ?_
    rw [poisonedSize_eq_zero_iff] at hs ⊢
    obtain ⟨sources, segments, regions⟩ := hs
    exact ⟨a.sources sources, a.segments segments, fun r => (a.regions r).clean (regions r)⟩
  halted r := by
    rw [a.mode]
    exact ⟨fun ht => (h.halted r).mp ((a.regions r).entered ht),
      fun hm => (a.regions r).stays hm ((h.halted r).mpr hm)⟩
  quiet hm r := (a.regions r).quiet (a.mode ▸ hm) (h.quiet (a.mode ▸ hm) r)
  finished hm i := a.finished (a.mode ▸ hm) i (h.finished (a.mode ▸ hm) i)
  inputs hm := a.inputs (a.mode ▸ hm) (h.inputs (a.mode ▸ hm))

/-! ## Outside containment -/

/-- A region that is not HALTED, outside containment. -/
theorem Region.Steady.of_live {m : DeviceMode} {g k : Region} (live : m ≠ .contained) (hp : k.poison = g.poison)
    (hs : k.state ≠ .halted) : g.Steady m k :=
  ⟨fun h => hp ▸ h, fun h => absurd h hs, fun h => absurd h live, fun h => absurd h live⟩

theorem ContainmentInv.live_of_state {s : State} (h : ContainmentInv s) {r : RegionId}
    (hr : (s.region r).state ≠ .halted) : s.mode ≠ .contained := fun hm => hr ((h.halted r).mpr hm)

theorem ContainmentInv.live_of_burst {s : State} (h : ContainmentInv s) {r : RegionId} {b : Burst}
    (hb : (s.region r).burst = some b) (flying : b.abandoned = false) : s.mode ≠ .contained := by
  intro hm
  have quiet := h.quiet hm r
  simp [Region.quiet, Region.inFlight, hb, flying] at quiet

theorem ContainmentInv.live_of_holder {s : State} (h : ContainmentInv s) {r : RegionId} (hr : s.holder = some r) :
    s.mode ≠ .contained := fun hm => by
  obtain ⟨holder, -⟩ := h.inputs hm
  rw [hr] at holder
  cases holder

/-! ## Updates -/

theorem steady_setPort (s : State) (p : Port) (v : PortState) : Steady s (s.setPort p v) := { Steady.refl s with }

theorem steady_setCount (s : State) (i : SourceId) (n : Nat) : Steady s (s.setCount i n) := { Steady.refl s with }

theorem steady_setCursor (s : State) (i : SourceId) (k : Fin 2) (c : Cursor) : Steady s (s.setCursor i k c) :=
  { Steady.refl s with }

theorem steady_raise (s : State) (f : AlertFlag) : Steady s (s.raise f) := { Steady.refl s with }

theorem steady_setCtx {s : State} {i : CtxId} {c : Context} (h : s.mode = .contained → c.finished) :
    Steady s (s.setCtx i c) := by
  refine { Steady.refl s with finished := fun hm j hj => ?_ }
  by_cases hi : j = i
  · subst hi
    rw [ctx_setCtx]
    exact h hm
  · rwa [ctx_setCtx_ne s c hi]

theorem steady_setRegion {s : State} {r : RegionId} {g : Region} (h : (s.region r).Steady s.mode g) :
    Steady s (s.setRegion r g) := by
  refine { Steady.refl s with regions := fun x => ?_ }
  by_cases hx : x = r
  · subst hx
    rwa [region_setRegion]
  · rw [region_setRegion_ne s g hx]
    exact .refl _ _

theorem steady_foldl {α : Type} {f : State → α → State} (h : ∀ s a, Steady s (f s a)) (l : List α) (s : State) :
    Steady s (l.foldl f s) := by
  induction l generalizing s with
  | nil => exact .refl s
  | cons a l ih => exact (h s a).trans (ih (f s a))

/-! ## Endings -/

theorem steady_leaveQueue (s : State) (r : RegionId) (i : CtxId) : Steady s (s.leaveQueue r i) := by
  refine steady_setRegion ?_
  unfold Region.leave
  split
  · exact .of_eq rfl rfl rfl
  · exact .refl _ _

theorem steady_enterQueue (s : State) (r : RegionId) (i : CtxId) : Steady s (s.enterQueue r i) :=
  steady_setRegion (.of_eq rfl rfl rfl)

theorem steady_release (s : State) (i : CtxId) : Steady s (s.release i) :=
  (steady_setCount s _ _).trans (steady_setCtx fun _ => .inl rfl)

theorem steady_clearMarker (s : State) (c : Context) : Steady s (s.clearMarker c) := by
  unfold State.clearMarker
  split
  · exact steady_setCursor s _ _ _
  · exact .refl s

theorem steady_handOver (s : State) (p : Port) (i : CtxId) : Steady s (s.handOver p i) := by
  unfold State.handOver
  split
  · exact steady_setPort s p _
  · exact steady_release s i

theorem steady_endCtx (s : State) (i : CtxId) (st : Status) (ws : List Word) : Steady s (s.endCtx i st ws) :=
  (((steady_leaveQueue s _ i).trans (steady_clearMarker _ _)).trans (steady_setCtx fun _ => .inr rfl)).trans
    (steady_handOver _ _ i)

theorem steady_endAll (s : State) (l : List CtxId) (st : Status) : Steady s (s.endAll l st) :=
  steady_foldl (fun s i => steady_endCtx s i st []) l s

theorem steady_enterOffline {s : State} (live : s.mode ≠ .contained) (r : RegionId) : Steady s (s.enterOffline r) :=
  (steady_endAll s _ _).trans (steady_setRegion (.of_live (mode_endAll s _ _ ▸ live) rfl nofun))

/-! ## Strobe-feedback inputs -/

theorem Steady.of_inputs {s : State} (live : s.mode ≠ .contained) (holder : Option RegionId) (waiting : List RegionId) :
    Steady s { s with holder := holder, waiting := waiting } :=
  { Steady.refl s with inputs := fun h => absurd h live }

theorem steady_takeInputs {s : State} (live : s.mode ≠ .contained) (r : RegionId) : Steady s (s.takeInputs r) :=
  let g := { s.region r with training := (s.region r).training.map Training.probe }
  (steady_setRegion (g := g) (.of_eq rfl rfl rfl)).trans (Steady.of_inputs (s := s.setRegion r g) live (some r) s.waiting)

theorem steady_releaseInputs {s : State} (live : s.mode ≠ .contained) : Steady s s.releaseInputs := by
  unfold State.releaseInputs
  split
  · exact .of_inputs live none s.waiting
  · rename_i r rest _
    exact (Steady.of_inputs live none rest).trans (steady_takeInputs (s := { s with holder := none, waiting := rest }) live r)

theorem steady_leaveInputs {s : State} (live : s.mode ≠ .contained) (r : RegionId) : Steady s (s.leaveInputs r) := by
  unfold State.leaveInputs
  split
  · exact steady_releaseInputs live
  · exact .of_inputs live s.holder _

theorem steady_becomeReady {s : State} (live : s.mode ≠ .contained) (r : RegionId) : Steady s (s.becomeReady r) := by
  unfold State.becomeReady
  split
  · exact steady_takeInputs live r
  · exact .of_inputs live s.holder _

end Sys2Proof.Machine

namespace Sys2Proof.Machine

/-! ## The end of a context -/

/-- The record of a context that has ended (R28). -/
def Context.ended (c : Context) (st : Status) (ws : List Word) : Context :=
  { c with state := .done, status := st, result := ws, pieces := none, parityOk := true }

/-- A context that ends leaves its queue and clears its cursor's marker, and joins the delivery list of its port or is released
(R28, R35, R131). -/
theorem endCtx_eq (s : State) (i : CtxId) (st : Status) (ws : List Word) :
    s.endCtx i st ws =
      if (s.port (s.ctx i).port).txOn then
        (((s.leaveQueue (s.ctx i).region i).clearMarker (s.ctx i)).setCtx i ((s.ctx i).ended st ws)).setPort (s.ctx i).port
          { s.port (s.ctx i).port with delivery := (s.port (s.ctx i).port).delivery ++ [i] }
      else (((s.leaveQueue (s.ctx i).region i).clearMarker (s.ctx i)).setCtx i ((s.ctx i).ended st ws)).release i := by
  unfold State.endCtx State.handOver State.clearMarker
  dsimp only
  split <;> rfl

theorem ctx_endCtx (s : State) (i : CtxId) (st : Status) (ws : List Word) :
    (s.endCtx i st ws).ctx i = if (s.port (s.ctx i).port).txOn then (s.ctx i).ended st ws else .free := by
  rw [endCtx_eq]
  split
  · rw [setPort_ctx, ctx_setCtx]
  · exact ctx_setCtx _ i _

theorem ctx_clearMarker (s : State) (c : Context) (j : CtxId) : (s.clearMarker c).ctx j = s.ctx j := by
  unfold State.clearMarker
  split <;> rfl

theorem ctx_release_ne (s : State) {i j : CtxId} (h : j ≠ i) : (s.release i).ctx j = s.ctx j := ctx_setCtx_ne _ _ h

theorem ctx_endCtx_ne (s : State) {i j : CtxId} (st : Status) (ws : List Word) (h : j ≠ i) :
    (s.endCtx i st ws).ctx j = s.ctx j := by
  rw [endCtx_eq]
  split
  · rw [setPort_ctx, ctx_setCtx_ne _ _ h, ctx_clearMarker]
    rfl
  · rw [ctx_release_ne _ h, ctx_setCtx_ne _ _ h, ctx_clearMarker]
    rfl

theorem finished_endCtx (s : State) (i j : CtxId) (st : Status) (ws : List Word) (h : j = i ∨ (s.ctx j).finished) :
    ((s.endCtx i st ws).ctx j).finished := by
  by_cases hj : j = i
  · subst hj
    rw [ctx_endCtx]
    split
    · exact .inr rfl
    · exact .inl rfl
  · rw [ctx_endCtx_ne s st ws hj]
    exact h.resolve_left hj

/-- The contexts of a list that is ended are finished. -/
theorem finished_endAll (l : List CtxId) (s : State) (st : Status) (j : CtxId) (h : j ∈ l ∨ (s.ctx j).finished) :
    ((s.endAll l st).ctx j).finished := by
  unfold State.endAll
  induction l generalizing s with
  | nil => exact h.resolve_left List.not_mem_nil
  | cons i l ih =>
    refine ih _ ?_
    rw [List.mem_cons, or_assoc] at h
    obtain rfl | h | h := h
    · exact .inr (finished_endCtx s j j st [] (.inl rfl))
    · exact .inl h
    · exact .inr (finished_endCtx s i j st [] (.inr h))

theorem mem_unfinished {s : State} {i : CtxId} : i ∈ s.unfinished ↔ (s.ctx i).queued := by
  simp [State.unfinished, Context.queued]

theorem finished_or_queued (c : Context) : c.finished ∨ c.queued := by
  unfold Context.finished Context.queued
  cases c.state <;> simp

/-! ## Faults -/

theorem poisonEntry_regs (s : State) (f : FaultItem) :
    (s.poisonEntry f).mode = s.mode ∧ (s.poisonEntry f).record = s.record ∧ (s.poisonEntry f).failPin = s.failPin := by
  cases f <;> exact ⟨rfl, rfl, rfl⟩

theorem quiet_of_abandoned {g : Region} {b : Option Burst} (h : g.burst = b.map Burst.abandon) : g.quiet := by
  cases b <;> simp [Region.quiet, Region.inFlight, h, Burst.abandon]

/-- Entry into containment makes it what the rules say (R140). -/
theorem containmentInv_contain {s : State} (live : s.mode ≠ .contained) (f : FaultItem) :
    ContainmentInv (s.contain f) := by
  let u : State := { s with record := some { item := f, prior := s.mode }, mode := .contained, failPin := true }
  let v : State := { u.poisonEntry f with
    regions := (u.poisonEntry f).regions.map Region.halt, holder := none, waiting := [] }
  have regs : v.mode = .contained ∧ v.record = u.record ∧ v.failPin = true := poisonEntry_regs u f
  obtain ⟨mode, record, failPin⟩ := regs
  have a : Steady v (s.contain f) := (steady_endAll v _ _).trans (steady_raise _ _)
  have contained : (s.contain f).mode = .contained := a.mode.trans mode
  have region (r : RegionId) : v.region r = ((u.poisonEntry f).region r).halt := region_map _ Region.halt r
  refine ⟨iff_of_true (a.failPin.trans failPin) contained, iff_of_true ?_ contained, ?_, fun _ => contained,
    fun r => iff_of_true ?_ contained, fun _ r => ?_, fun _ i => ?_, fun _ => ?_⟩
  · rw [a.record, record]
    rfl
  · intro c hc
    rw [a.record, record] at hc
    cases hc
    exact live
  · refine (a.regions r).stays mode ?_
    rw [region, Region.halt_eq]
  · refine (a.regions r).quiet mode ?_
    rw [region, Region.halt_eq]
    exact quiet_of_abandoned rfl
  · refine finished_endAll v.unfinished v .contained i ?_
    rw [mem_unfinished, or_comm]
    exact finished_or_queued _
  · exact a.inputs mode ⟨rfl, rfl⟩

theorem ContainmentInv.takeFault {s : State} (h : ContainmentInv s) (f : FaultItem) : ContainmentInv (s.takeFault f) := by
  unfold State.takeFault
  split
  · rename_i contained
    refine .of_steady (steady_raise _ _) ?_
    cases f with
    | source i => exact { h with poison := fun _ => contained }
    | segment i => exact { h with poison := fun _ => contained }
    | profile r g =>
      have keeps (x : RegionId) : ((s.poisonEntry (.profile r g)).region x).state = (s.region x).state ∧
          ((s.poisonEntry (.profile r g)).region x).burst = (s.region x).burst := by
        by_cases hx : x = r
        · subst hx
          simp [State.poisonEntry]
        · simp [State.poisonEntry, region_setRegion_ne s _ hx]
      exact
        { h with
          poison := fun _ => contained
          halted := fun x => (keeps x).1 ▸ h.halted x
          quiet := fun hm x => by
            have quiet := h.quiet hm x
            unfold Region.quiet Region.inFlight at quiet ⊢
            rwa [(keeps x).2] }
    | _ => exact h
  · rename_i live
    exact containmentInv_contain live f

theorem ContainmentInv.faultAt {s : State} (h : ContainmentInv s) (k : CheckKind) (f : FaultItem) :
    ContainmentInv (s.faultAt k f) :=
  ContainmentInv.takeFault (s := { s with inject := s.inject.consume k }) { h with } f

/-! ## The mode set -/

/-- Containment outside CONTAINED. -/
theorem ContainmentInv.of_live {s : State} (live : s.mode ≠ .contained) (fail : s.failPin = false)
    (record : s.record = none) (clean : s.poisonedSize = 0) (halted : ∀ r, (s.region r).state ≠ .halted) :
    ContainmentInv s where
  fail := iff_of_false (by simp [fail]) live
  recorded := iff_of_false (by simp [record]) live
  prior c hc := by simp [record] at hc
  poison h := absurd clean h
  halted r := iff_of_false (halted r) live
  quiet h := absurd h live
  finished h := absurd h live
  inputs h := absurd h live

theorem ContainmentInv.clean {s : State} (h : ContainmentInv s) (live : s.mode ≠ .contained) :
    s.failPin = false ∧ s.record = none ∧ s.poisonedSize = 0 ∧ ∀ r, (s.region r).state ≠ .halted :=
  ⟨Bool.not_eq_true _ ▸ mt h.fail.mp live, by simpa using mt h.recorded.mp live, not_not.mp (mt h.poison live),
    fun r => mt (h.halted r).mp live⟩

theorem ContainmentInv.start {s : State} (h : ContainmentInv s) (config : s.mode = .config) :
    ContainmentInv { s with mode := .run } := by
  obtain ⟨fail, record, clean, halted⟩ := h.clean (by simp [config])
  exact .of_live nofun fail record clean halted

theorem ContainmentInv.softReset {s : State} (h : ContainmentInv s) (live : s.mode ≠ .contained) :
    ContainmentInv s.softReset := by
  obtain ⟨fail, record, clean, halted⟩ := h.clean live
  have region (r : RegionId) : (s.softReset.region r).state = (s.region r).state ∧
      (s.softReset.region r).poison = (s.region r).poison := by
    rw [show s.softReset.region r = (s.region r).freed from region_map s Region.freed r, Region.freed,
      Region.abandonBurst_eq]
    exact ⟨rfl, rfl⟩
  rw [poisonedSize_eq_zero_iff] at clean
  obtain ⟨sources, segments, regions⟩ := clean
  exact .of_live nofun fail record
    ((poisonedSize_eq_zero_iff _).mpr ⟨sources, segments, fun r => (region r).2 ▸ regions r⟩)
    (fun r => (region r).1 ▸ halted r)

/-- The exit mapping of a HALTED region (Table 6-5) leaves its poisoned groups, and no region HALTED. -/
theorem Region.leaveHalted_state (g : Region) : g.leaveHalted.poison = g.poison ∧ g.leaveHalted.state ≠ .halted := by
  unfold Region.leaveHalted
  dsimp only
  split
  case h_3 | h_4 | h_5 =>
    split <;> exact ⟨rfl, nofun⟩
  all_goals exact ⟨rfl, nofun⟩

theorem ContainmentInv.clearContainment {s : State} (h : ContainmentInv s) (contained : s.mode = .contained)
    (clean : s.poisonedSize = 0) : ContainmentInv s.clearContainment := by
  have region (r : RegionId) : s.clearContainment.region r = (s.region r).leaveHalted := region_map s Region.leaveHalted r
  rw [poisonedSize_eq_zero_iff] at clean
  obtain ⟨sources, segments, regions⟩ := clean
  refine .of_live ?_ rfl rfl ((poisonedSize_eq_zero_iff _).mpr ⟨sources, segments, fun r => ?_⟩) fun r => ?_
  · obtain ⟨c, hc⟩ := Option.isSome_iff_exists.mp (h.recorded.mpr contained)
    rw [State.clearContainment, hc]
    exact h.prior c hc
  · rw [region, (Region.leaveHalted_state _).1]
    exact regions r
  · rw [region]
    exact (Region.leaveHalted_state _).2

end Sys2Proof.Machine

namespace Sys2Proof.Machine

/-! ## Turns, pending actions and region commands -/

section
variable {s t : State} {r : RegionId} (live : s.mode ≠ .contained)
include live

theorem steady_issueCtx (k : Nat) (i : CtxId) (state : (s.region r).state ≠ .halted) : Steady s (s.issueCtx r k i) := by
  unfold State.issueCtx
  dsimp only
  split
  · exact .refl s
  · refine (steady_setCtx fun h => absurd h live).trans (steady_setRegion (.of_live live rfl ?_))
    exact state

theorem steady_applyTiming (g : TimingGroup) : Steady s (s.applyTiming r g) := by
  have settled :
      Steady s (s.setRegion r ({ (s.region r).dropPatrol with timing := g, timingOk := true }.settleFor 2)) :=
    steady_setRegion (.of_live live rfl nofun)
  exact settled.trans (steady_raise _ _)

theorem steady_retime (g : TimingGroup) : Steady s (s.retime r g) := by
  have clean : (s.region r).Steady s.mode (s.region r).unnameTiming :=
    ⟨fun h => by simp_all [Region.unnameTiming, Groups.any], id, fun _ => id, fun _ => id⟩
  unfold State.retime
  dsimp only
  split
  · exact steady_setRegion ⟨clean.clean, nofun, fun h => absurd h live, fun h => absurd h live⟩
  · exact (steady_setRegion clean).trans (steady_applyTiming (s := s.setRegion r _) live g)

theorem steady_online (h : s.online r = .ok t) : Steady s t := by
  unfold State.online at h
  dsimp only at h
  split at h
  · split at h
    · exact Except.ok.inj h ▸ steady_setRegion (.of_live live rfl nofun)
    · cases h
  · cases h

theorem steady_abortTraining (training : (s.region r).state = .training) : Steady s (s.abortTraining r) := by
  have untrained : Steady s (s.setRegion r { (s.region r).untrain with training := none }) :=
    steady_setRegion (.of_live live rfl (show (s.region r).state ≠ .halted by rw [training]; exact nofun))
  have left := untrained.trans (steady_leaveInputs (untrained.mode ▸ live) r)
  exact left.trans (steady_enterOffline (left.mode ▸ live) r)

theorem steady_offline (h : s.offline r = .ok t) : Steady s t := by
  unfold State.offline at h
  dsimp only at h
  split at h
  case h_1 training => exact Except.ok.inj h ▸ steady_abortTraining live training
  case h_2 | h_3 => exact Except.ok.inj h ▸ steady_enterOffline live r
  case h_4 =>
    obtain rfl := Except.ok.inj h
    split
    · exact steady_setRegion (.of_live live rfl nofun)
    · exact steady_enterOffline live r
  case h_5 quiescing =>
    exact Except.ok.inj h ▸ steady_setRegion (.of_live live rfl (by rw [quiescing]; exact nofun))
  case h_6 | h_7 => cases h

theorem steady_parkRegion (h : s.parkRegion r = .ok t) : Steady s t := by
  unfold State.parkRegion at h
  dsimp only at h
  split at h
  · obtain rfl := Except.ok.inj h
    split <;> exact steady_setRegion (.of_live live rfl nofun)
  all_goals cases h

theorem steady_unpark (h : s.unpark r = .ok t) : Steady s t := by
  unfold State.unpark at h
  dsimp only at h
  split at h
  · obtain rfl := Except.ok.inj h
    split
    · exact steady_setRegion (.of_live live rfl nofun)
    · exact (steady_enterOffline live r).trans (steady_raise _ _)
  · cases h

theorem steady_train (h : s.train r = .ok t) : Steady s t := by
  unfold State.train at h
  dsimp only at h
  split at h
  · split at h
    · cases h
    · split at h
      · cases h
      · obtain rfl := Except.ok.inj h
        have begun : Steady s (s.setRegion r (s.region r).beginTraining) := steady_setRegion (.of_live live rfl nofun)
        exact begun.trans (steady_becomeReady (begun.mode ▸ live) r)
  · cases h

/-! ## Completions and trainings -/

theorem steady_moveToTarget (i : CtxId) (d : Descriptor) (ring : Ring) (o : Nat) : Steady s (s.moveToTarget i d ring o) :=
  ((steady_leaveQueue s _ i).trans (steady_setCtx fun h => absurd h live)).trans (steady_enterQueue _ _ i)

theorem steady_advance (i : CtxId) (b : Burst) (ws : List (Nat × Word)) : Steady s (s.advance i b ws) :=
  steady_setCtx fun h => absurd h live

theorem steady_settle (i : CtxId) (v : Verdict) : Steady s (s.settle i v) := by
  cases v with
  | plan c => exact steady_setCtx fun h => absurd h live
  | ends st ws => exact steady_endCtx s i st ws

theorem steady_endTraining {g : Region} (poison : g.poison = (s.region r).poison) (state : g.state ≠ .halted)
    (f : AlertFlag) : Steady s (s.endTraining r g f) := by
  have stopped : Steady s (s.setRegion r { g with training := none }) := steady_setRegion (.of_live live poison state)
  have off := (stopped.trans (steady_enterOffline (stopped.mode ▸ live) r)).trans (steady_raise _ f)
  exact off.trans (steady_releaseInputs (off.mode ▸ live))

theorem steady_failTraining (state : (s.region r).state ≠ .halted) : Steady s (s.failTraining r) :=
  steady_endTraining (g := (s.region r).untrain) live rfl state _

theorem steady_recordSample (state : (s.region r).state ≠ .halted) (u : Training) : Steady s (s.recordSample r u) := by
  have recorded (u : Training) : Steady s (s.setRegion r { s.region r with training := some u }) :=
    steady_setRegion (.of_eq rfl rfl rfl)
  unfold State.recordSample State.stepOutcome
  split
  · split
    · rename_i steps _
      exact steady_endTraining (g := { s.region r with trained := true, delays := steps }) live rfl state _
    · split
      · exact steady_failTraining live state
      · have freed := (recorded u.advance).trans (steady_releaseInputs ((recorded u.advance).mode ▸ live))
        exact freed.trans (steady_becomeReady (freed.mode ▸ live) r)
  · exact recorded u

end

namespace ContainmentInv

variable {s : State} (h : ContainmentInv s)
include h

theorem halted_of_live (live : s.mode ≠ .contained) (r : RegionId) : (s.region r).state ≠ .halted := (h.clean live).2.2.2 r

theorem carryOut (r : RegionId) : ContainmentInv (s.carryOut r) := by
  unfold State.carryOut
  dsimp only
  split
  · rename_i quiescing
    have live := h.live_of_state (r := r) (by rw [quiescing.1]; exact nofun)
    split
    · exact .of_steady (steady_applyTiming live _) h
    · exact .of_steady (steady_setRegion (.of_live live rfl nofun)) h
    · exact .of_steady (steady_enterOffline live r) h
    · exact h
  · exact h

theorem linkCompletion (live : s.mode ≠ .contained) (i : CtxId) : ContainmentInv (s.linkCompletion i) := by
  unfold State.linkCompletion
  dsimp only
  split
  · exact .of_steady (steady_endCtx ..) h
  · split
    · exact h.faultAt _ _
    · split
      · exact .of_steady (steady_endCtx ..) h
      · split
        · exact .of_steady (steady_endCtx ..) h
        · exact .of_steady (steady_moveToTarget live ..) h

theorem accessEnd (live : s.mode ≠ .contained) (i : CtxId) : ContainmentInv (s.accessEnd i) := by
  unfold State.accessEnd
  dsimp only
  split
  case h_1 => exact h.linkCompletion live i
  case h_2 | h_3 => exact .of_steady (steady_endCtx ..) h
  case h_4 | h_5 | h_6 => exact .of_steady (steady_settle live i _) h
  case h_7 | h_8 => exact .of_steady ((steady_setCursor ..).trans (steady_endCtx ..)) h

theorem contextCompletion (live : s.mode ≠ .contained) (i : CtxId) (b : Burst) (ws : List (Nat × Word)) :
    ContainmentInv (s.contextCompletion i b ws) := by
  have advanced := steady_advance live i b ws
  unfold State.contextCompletion
  dsimp only
  split
  · exact accessEnd (.of_steady advanced h) (advanced.mode ▸ live) i
  · exact .of_steady advanced h

theorem patrolCompletion (r : RegionId) (words : List Word) :
    ContainmentInv (s.patrolCompletion r words) := by
  unfold State.patrolCompletion
  dsimp only
  split
  · split
    · have done : ContainmentInv (s.setRegion r { s.region r with due := false, patrolRead := none }) :=
        .of_steady (steady_setRegion (.of_eq rfl rfl rfl)) h
      unfold State.comparePatrol
      split
      · exact done
      · split
        · exact done.takeFault _
        · exact .of_steady (steady_raise _ _) done
    · exact .of_steady (steady_setRegion (.of_eq rfl rfl rfl)) h
  · exact h

end ContainmentInv

/-- A burst that leaves the bus. -/
theorem steady_burstMoved (s : State) (r : RegionId) (b : Burst) (taken : Nat → Bool) :
    Steady s (s.burstMoved r b taken) := by
  have ended : (s.region r).Steady s.mode (s.region r).endBurst := by
    rw [Region.endBurst, Region.admitPatrol_of_quiet rfl]
    exact ⟨id, id, fun _ => id, fun _ _ => rfl⟩
  exact { steady_setRegion (r := r) ended with }

theorem steady_timeOut {s : State} (live : s.mode ≠ .contained) (r : RegionId) (b : Burst) (moved : Nat) :
    Steady s (s.timeOut r b moved) := by
  have moved' : Steady s { s.burstMoved r b (s.timeoutTaken moved) with freeCount := s.freeCount + 1 } :=
    { steady_burstMoved s r b (s.timeoutTaken moved) with }
  unfold State.timeOut
  dsimp only
  split
  · rename_i i _
    have ended := moved'.trans (steady_endCtx _ i .deviceTimeout [])
    exact (ended.trans (steady_enterOffline (ended.mode ▸ live) r)).trans (steady_raise _ _)
  · exact (moved'.trans (steady_enterOffline (moved'.mode ▸ live) r)).trans (steady_raise _ _)

/-! ## The invariant -/

theorem containmentInv_reset : ContainmentInv State.reset := by
  have region (r : RegionId) : State.reset.region r = .reset := by simp [State.region, State.reset]
  refine .of_live nofun rfl rfl ((poisonedSize_eq_zero_iff _).mpr ⟨rfl, rfl, fun r => ?_⟩) fun r => ?_
  · exact (region r).symm ▸ (rfl : Region.reset.poison.any = false)
  · exact (region r).symm ▸ (nofun : Region.reset.state ≠ .halted)

/-- A region whose poisoned groups are fewer. -/
theorem Region.Steady.of_cleaner {m : DeviceMode} {g k : Region} (hp : g.poison.any = false → k.poison.any = false)
    (hs : k.state = g.state) (hb : k.burst = g.burst) : g.Steady m k :=
  { Region.Steady.of_eq (m := m) (g := g) (k := { k with poison := g.poison }) rfl hs hb with clean := hp }

theorem Region.storePatrol_frame (g : Region) (x : PatrolGroup) :
    (g.storePatrol x).poison = { g.poison with patrol := false } ∧ (g.storePatrol x).state = g.state ∧
      (g.storePatrol x).burst = g.burst := by
  unfold Region.storePatrol Region.admitPatrol
  dsimp only
  split <;> exact ⟨rfl, rfl, rfl⟩

theorem containmentRules : InvariantRules ContainmentInv ContainmentInv ContainmentInv where
  begins _ := id
  idle _ := id
  ends s h := by
    rw [grantPins_frame]
    exact { h with }
  deviceReset s t _ ht := by
    obtain rfl := Host.Outcome.next.inj ht
    exact { containmentInv_reset with }
  registers _ _ _ _ _ _ _ _ h := { h with }
  port s p v _ := .of_steady (steady_setPort s p v)
  deliver s p i _ _ := .of_steady ((steady_setPort s p _).trans (steady_release _ i))
  takeFault _ f h := h.takeFault f
  issueCtx s r k i online _ _ h :=
    .of_steady (steady_issueCtx (h.live_of_state (r := r) (by simp [online])) k i (by simp [online])) h
  issuePatrol s r pc rest online _ _ h :=
    .of_steady (steady_setRegion (.of_live (h.live_of_state (r := r) (by simp [online])) rfl (by simp [Region.issue, online]))) h
  carryOut _ r h := h.carryOut r
  allocate s i c run _ _ _ _ h := by
    have taken : Steady s (((s.setCtx i c).setCount c.source (s.count c.source + 1)).enterQueue c.region i) :=
      ((steady_setCtx fun hm => by simp [run] at hm).trans (steady_setCount _ _ _)).trans (steady_enterQueue _ _ _)
    unfold State.allocate
    dsimp only
    split
    · exact .of_steady (taken.trans (steady_setCursor ..)) h
    · exact .of_steady taken h
  cursorSet s j k cu _ _ _ := .of_steady (steady_setCursor s j k cu)
  storeSource s _ i f _ h :=
    .of_steady { Steady.refl s with sources := fun hs => by simp [State.storeSource, hs] } h
  storeSegment s i d _ h :=
    .of_steady { Steady.refl s with segments := fun hs => by simp [State.storeSegment, hs] } h
  storeClock s r g _ :=
    .of_steady (steady_setRegion (.of_cleaner (by simp +contextual [Region.storeClock, Region.untrain, Groups.any]) rfl rfl))
  storeTiming s r g _ :=
    .of_steady (steady_setRegion (.of_cleaner (by simp +contextual [Region.storeTiming, Groups.any]) rfl rfl))
  retime s r g online h := .of_steady (steady_retime (h.live_of_state (r := r) (by simp [online])) g) h
  storePatrol s r g _ := by
    obtain ⟨poison, state, burst⟩ := (s.region r).storePatrol_frame g
    exact .of_steady (steady_setRegion (.of_cleaner (by simp +contextual [poison, Groups.any]) state burst))
  online _ _ _ live ht := .of_steady (steady_online live ht)
  offline _ _ _ live ht := .of_steady (steady_offline live ht)
  parkRegion _ _ _ live ht := .of_steady (steady_parkRegion live ht)
  unpark _ _ _ live ht := .of_steady (steady_unpark live ht)
  train _ _ _ live ht := .of_steady (steady_train live ht)
  start _ config h := h.start config
  softReset _ live h := h.softReset live
  clearContainment _ contained clean h := h.clearContainment contained clean
  burstMoved s r b taken _ _ := .of_steady (steady_burstMoved s r b taken)
  contextCompletion s r b i taken ws hb flying _ _ h :=
    ContainmentInv.contextCompletion (.of_steady (steady_burstMoved s r b taken) h) (h.live_of_burst hb flying) i b ws
  patrolCompletion s r b taken words _ _ _ h :=
    ContainmentInv.patrolCompletion (.of_steady (steady_burstMoved s r b taken) h) r words
  timeOut s r b moved hb flying _ _ h := .of_steady (steady_timeOut (h.live_of_burst hb flying) r b moved) h
  settleExpiry s r settling h :=
    .of_steady (steady_setRegion (.of_live (h.live_of_state (r := r) (by simp [settling])) rfl nofun)) h
  markDue s r := .of_steady (steady_setRegion (.of_eq rfl rfl rfl))
  recordSample s r _ u holder _ h :=
    have live := h.live_of_holder holder
    .of_steady (steady_recordSample live (h.halted_of_live live r) u) h
  failTraining s r _ holder _ h :=
    have live := h.live_of_holder holder
    .of_steady (steady_failTraining live (h.halted_of_live live r)) h

/-- Settles O55: every step is made of steps that keep containment what the rules say. -/
theorem containmentKept : Obligations.ContainmentKept := by
  intro s t h ht
  exact step_keeps (fun _ _ h => { h with }) (fun _ _ _ => containmentRules.exec) h ht

end Sys2Proof.Machine

/-!
The context pool inside an event (R25, R27, R35, R57, R58, R131). `Pool strict` is `PoolInv` without the grant of the pins, which
an event makes at its end; where not `strict` it is also without what a CLEAR_CONTAINMENT needs the containment invariant for: that
unfinished contexts are queued, and what region states say of bursts and trainings. Its rules follow the life of a context:
allocated, moved, ended, released.
-/

namespace Sys2Proof.Machine

/-! ## What holds of every item after a write of one -/

theorem forall_setRegion_of_ne {s : State} {r : RegionId} {g : Region} {p : RegionId → Region → Prop} (hr : p r g)
    (h : ∀ x, x ≠ r → p x (s.region x)) (x : RegionId) : p x ((s.setRegion r g).region x) := by
  by_cases hx : x = r
  · subst hx
    rwa [region_setRegion]
  · rw [region_setRegion_ne s g hx]
    exact h x hx

theorem forall_setRegion {s : State} {r : RegionId} {g : Region} {p : RegionId → Region → Prop} (hr : p r g)
    (h : ∀ x, p x (s.region x)) : ∀ x, p x ((s.setRegion r g).region x) :=
  forall_setRegion_of_ne hr fun x _ => h x

theorem forall_setCtx {s : State} {i : CtxId} {c : Context} {p : CtxId → Context → Prop} (hi : p i c)
    (h : ∀ j, p j (s.ctx j)) (j : CtxId) : p j ((s.setCtx i c).ctx j) := by
  by_cases hj : j = i
  · subst hj
    rwa [ctx_setCtx]
  · rw [ctx_setCtx_ne s c hj]
    exact h j

theorem forall_setPort {s : State} {q : Port} {v : PortState} {p : Port → PortState → Prop} (hq : p q v)
    (h : ∀ x, p x (s.port x)) (x : Port) : p x ((s.setPort q v).port x) := by
  by_cases hx : x = q
  · subst hx
    rwa [port_setPort]
  · rw [port_setPort_ne s v hx]
    exact h x

/-! ## The invariant inside an event -/

/-- A burst in flight stands in an ONLINE or QUIESCING region, and a training in a TRAINING one (R57, R102). -/
structure Region.Sound (strict : Prop) (g : Region) : Prop where
  flight : strict → g.inFlight = true → g.state = .online ∨ g.state = .quiescing
  training : strict → g.training.isSome = true → g.state = .training

/-- The pool, the queues, the delivery lists and the markers as they are inside an event. -/
structure Pool (strict : Prop) (s : State) : Prop where
  queueOf : ∀ r i, i ∈ (s.region r).queue → (s.ctx i).queued ∧ (s.ctx i).region = r
  inQueue : strict → ∀ i, (s.ctx i).queued → i ∈ (s.region (s.ctx i).region).queue
  queueOnce : ∀ r, (s.region r).queue.Nodup
  pointer : ∀ r, (s.region r).turn ≤ (s.region r).queue.length
  listOf : ∀ p i, i ∈ (s.port p).delivery → (s.ctx i).state = .done ∧ (s.ctx i).port = p
  onList : ∀ i, (s.ctx i).state = .done → i ∈ (s.port (s.ctx i).port).delivery
  listOnce : ∀ p, (s.port p).delivery.Nodup
  counted : ∀ j, s.count j = s.outstanding j
  limited : ∀ j, s.count j ≤ (s.source j).limit ∧ 1 ≤ (s.source j).limit ∧ (s.source j).limit ≤ 8
  sound : ∀ r, (s.region r).Sound strict
  owner : strict → ∀ r b i, (s.region r).burst = some b → b.abandoned = false → b.owner = .ctx i →
    (s.ctx i).state = .serving ∧ (s.ctx i).region = r
  pinsHeld : ∀ r, s.pins = some r → (s.region r).burst.isSome = true
  marked : ∀ j k, (s.cursor j k).inFlight = true ↔ ∃ i, (s.ctx i).steps j k
  markedOnce : ∀ i i' j k, (s.ctx i).steps j k → (s.ctx i').steps j k → i = i'
  markedSet : ∀ j k, (s.cursor j k).inFlight = true → (s.cursor j k).isSet = true

theorem PoolInv.pool {s : State} (h : PoolInv s) (strict : Prop) : Pool strict s :=
  { h with inQueue := fun _ => h.inQueue, sound := fun r => ⟨fun _ => h.flight r, fun _ => h.training r⟩, owner := fun _ => h.owner }

/-- The grant of the pins at the end of an event completes the invariant (R71). -/
theorem Pool.grantPins {s : State} (h : Pool True s) : PoolInv s.grantPins := by
  have frame := grantPins_frame s
  have onBus (r : RegionId) : r ∈ s.onBus → (s.region r).burst.isSome = true := mem_onBus.mp
  have pinsHeld (r : RegionId) (hr : s.grantPins.pins = some r) : (s.region r).burst.isSome = true := by
    cases hp : s.pins with
    | some q => rw [grantPins_held hp] at hr; exact h.pinsHeld r hr
    | none =>
      by_cases idle : s.onBus = []
      · rw [grantPins_idle idle] at hr
        exact h.pinsHeld r hr
      · obtain ⟨q, hq, granted⟩ := grantPins_some hp idle
        rw [granted] at hr
        exact Option.some.inj hr ▸ onBus q hq
  have pinsFree (free : s.grantPins.pins = none) (r : RegionId) : (s.region r).burst = none := by
    by_contra burst
    have hr : r ∈ s.onBus := mem_onBus.mpr (Option.isSome_iff_ne_none.mpr burst)
    cases hp : s.pins with
    | some q => rw [grantPins_held hp, hp] at free; cases free
    | none =>
      obtain ⟨q, -, granted⟩ := grantPins_some hp (List.ne_nil_of_mem hr)
      rw [granted] at free
      cases free
  rw [frame]
  exact
    { h with
      inQueue := h.inQueue trivial
      flight := fun r => (h.sound r).flight trivial
      training := fun r => (h.sound r).training trivial
      owner := h.owner trivial
      pinsHeld := pinsHeld
      pinsFree := pinsFree }

namespace Pool

variable {strict : Prop} {s : State} (h : Pool strict s)
include h

theorem quiet_of_state {r : RegionId} (online : (s.region r).state ≠ .online) (quiescing : (s.region r).state ≠ .quiescing)
    (hs : strict) : (s.region r).inFlight = false := by
  by_contra hf
  exact ((h.sound r).flight hs (Bool.not_eq_false _ ▸ hf)).elim online quiescing

theorem training_eq_none {r : RegionId} (state : (s.region r).state ≠ .training) (hs : strict) :
    (s.region r).training = none := by
  by_contra ht
  exact state ((h.sound r).training hs (Option.isSome_iff_ne_none.mpr ht))

theorem not_mem_queue {r : RegionId} {i : CtxId} (finished : ¬(s.ctx i).queued) : i ∉ (s.region r).queue :=
  fun hi => finished (h.queueOf r i hi).1

theorem not_mem_delivery {p : Port} {i : CtxId} (running : (s.ctx i).state ≠ .done) : i ∉ (s.port p).delivery :=
  fun hi => running (h.listOf p i hi).1

end Pool

/-! ## Regions -/

/-- A region changed but for its queue, its turn pointer and its burst, which may have been abandoned. -/
structure Region.Kept (g k : Region) : Prop where
  queue : k.queue = g.queue
  turn : k.turn = g.turn
  burst : ∀ b, k.burst = some b → b.abandoned = false → g.burst = some b
  held : g.burst.isSome = true → k.burst.isSome = true

theorem Region.Kept.of_eq {g k : Region} (hq : k.queue = g.queue) (ht : k.turn = g.turn) (hb : k.burst = g.burst) :
    g.Kept k :=
  ⟨hq, ht, fun _ h _ => hb ▸ h, fun h => hb ▸ h⟩

theorem Region.Kept.refl (g : Region) : g.Kept g := .of_eq rfl rfl rfl

/-- A region with nothing in flight and no training is sound in every state. -/
theorem Region.Sound.of_idle {strict : Prop} {g k : Region} (quiet : strict → g.inFlight = false)
    (hb : k.burst = g.burst) (ht : strict → k.training = none) : k.Sound strict := by
  refine ⟨fun hs hf => ?_, fun hs h => by simp [ht hs] at h⟩
  have quiet := quiet hs
  unfold Region.inFlight at quiet hf
  rw [hb, quiet] at hf
  cases hf

theorem Region.Sound.of_eq {strict : Prop} {g k : Region} (h : g.Sound strict) (state : k.state = g.state)
    (hb : k.burst = g.burst) (ht : k.training.isSome = g.training.isSome) : k.Sound strict := by
  refine ⟨fun hs hf => ?_, fun hs hf => state ▸ h.training hs (ht ▸ hf)⟩
  rw [state]
  refine h.flight hs ?_
  unfold Region.inFlight at hf ⊢
  rwa [← hb]

namespace Pool

variable {strict : Prop} {s : State} (h : Pool strict s)
include h

/-- Regions change but for their queues and bursts. -/
theorem setRegions {v : Vector Region 8} (kept : ∀ r, (s.region r).Kept ({ s with regions := v }.region r))
    (sound : ∀ r, ({ s with regions := v }.region r).Sound strict) : Pool strict { s with regions := v } :=
  { h with
    queueOf := fun r i hi => h.queueOf r i ((kept r).queue ▸ hi)
    inQueue := fun hs i hi => (kept _).queue ▸ h.inQueue hs i hi
    queueOnce := fun r => (kept r).queue ▸ h.queueOnce r
    pointer := fun r => by rw [(kept r).queue, (kept r).turn]; exact h.pointer r
    sound := sound
    owner := fun hs r b i hb flying ho => h.owner hs r b i ((kept r).burst b hb flying) flying ho
    pinsHeld := fun r hr => (kept r).held (h.pinsHeld r hr) }

theorem setRegion {r : RegionId} {g : Region} (kept : (s.region r).Kept g) (sound : g.Sound strict) :
    Pool strict (s.setRegion r g) := by
  exact h.setRegions (v := s.regions.set r.val g r.isLt)
    (forall_setRegion (p := fun x k => (s.region x).Kept k) kept fun _ => .refl _)
    (forall_setRegion (p := fun _ k => k.Sound strict) sound h.sound)

/-- A region's registers change of which the invariant says nothing. -/
theorem setRegister {r : RegionId} {g : Region} (hq : g.queue = (s.region r).queue) (ht : g.turn = (s.region r).turn)
    (hb : g.burst = (s.region r).burst) (hs : g.state = (s.region r).state)
    (htr : g.training.isSome = (s.region r).training.isSome) : Pool strict (s.setRegion r g) :=
  h.setRegion (.of_eq hq ht hb) ((h.sound r).of_eq hs hb htr)

/-- A region with nothing in flight changes its state, without a training. -/
theorem setState {r : RegionId} {g : Region} (quiet : strict → (s.region r).inFlight = false)
    (hq : g.queue = (s.region r).queue) (ht : g.turn = (s.region r).turn) (hb : g.burst = (s.region r).burst)
    (htr : strict → g.training = none) :
    Pool strict (s.setRegion r g) :=
  h.setRegion (.of_eq hq ht hb) (.of_idle quiet hb htr)

/-! ## Ports and cursors -/

theorem setPort {p : Port} {v : PortState} (hv : v.delivery = (s.port p).delivery) : Pool strict (s.setPort p v) := by
  have delivery := forall_setPort (s := s) (p := fun q x => x.delivery = (s.port q).delivery) hv fun _ => rfl
  exact
    { h with
      listOf := fun q i hi => h.listOf q i (delivery q ▸ hi)
      onList := fun i hi => (delivery _).symm ▸ h.onList i hi
      listOnce := fun q => (delivery q).symm ▸ h.listOnce q }

end Pool

/-! ## Records -/

/-- A record that stands in the same place for the same request; an unfinished one may have begun to be served. -/
structure Context.Alike (c d : Context) : Prop where
  state : d.state = c.state ∨ c.queued ∧ d.state = .serving
  region : d.region = c.region
  port : d.port = c.port
  source : d.source = c.source
  kind : d.kind = c.kind
  cursor : d.cursor = c.cursor

theorem Context.Alike.queued {c d : Context} (a : c.Alike d) : d.queued ↔ c.queued := by
  obtain hs | ⟨hq, hs⟩ := a.state
  · rw [Context.queued, hs, Context.queued]
  · exact iff_of_true (.inr hs) hq

theorem Context.Alike.done {c d : Context} (a : c.Alike d) : d.state = .done ↔ c.state = .done := by
  obtain hs | ⟨hq, hs⟩ := a.state
  · rw [hs]
  · obtain hq | hq := hq <;> simp [hs, hq]

theorem Context.Alike.free {c d : Context} (a : c.Alike d) : d.state = .free ↔ c.state = .free := by
  obtain hs | ⟨hq, hs⟩ := a.state
  · rw [hs]
  · obtain hq | hq := hq <;> simp [hs, hq]

theorem Context.Alike.steps {c d : Context} (a : c.Alike d) (j : SourceId) (k : Fin 2) : d.steps j k ↔ c.steps j k := by
  rw [Context.steps, Context.steps, a.queued, a.kind, a.source, a.cursor]

theorem Context.Alike.refl (c : Context) : c.Alike c := ⟨.inl rfl, rfl, rfl, rfl, rfl, rfl⟩

/-- Outstanding contexts, as a set. -/
def State.outstandingSet (s : State) (j : SourceId) : Finset CtxId :=
  Finset.univ.filter fun i => (s.ctx i).state ≠ .free ∧ (s.ctx i).source = j

theorem outstanding_eq_card (s : State) (j : SourceId) : s.outstanding j = (s.outstandingSet j).card := by
  unfold State.outstanding State.outstandingSet
  rw [← List.toFinset_card_of_nodup ((List.nodup_finRange 32).filter _)]
  congr 1
  ext i
  simp

theorem mem_outstandingSet {s : State} {j : SourceId} {i : CtxId} :
    i ∈ s.outstandingSet j ↔ (s.ctx i).state ≠ .free ∧ (s.ctx i).source = j := by simp [State.outstandingSet]

theorem outstanding_congr {s t : State} {j : SourceId}
    (h : ∀ i, ((t.ctx i).state ≠ .free ∧ (t.ctx i).source = j) ↔ ((s.ctx i).state ≠ .free ∧ (s.ctx i).source = j)) :
    t.outstanding j = s.outstanding j := by
  rw [outstanding_eq_card, outstanding_eq_card]
  congr 1
  ext i
  rw [mem_outstandingSet, mem_outstandingSet, h]

/-- A record is written in place. -/
theorem Pool.setCtx {strict : Prop} {s : State} (h : Pool strict s) {i : CtxId} {d : Context} (a : (s.ctx i).Alike d) :
    Pool strict (s.setCtx i d) := by
  have alike := forall_setCtx (s := s) (p := fun j c => (s.ctx j).Alike c) a fun _ => .refl _
  exact
    { h with
      queueOf := fun r j hj => by rw [(alike j).queued, (alike j).region]; exact h.queueOf r j hj
      inQueue := fun hs j hj => by rw [(alike j).region]; exact h.inQueue hs j ((alike j).queued.mp hj)
      listOf := fun p j hj => by rw [(alike j).done, (alike j).port]; exact h.listOf p j hj
      onList := fun j hj => by rw [(alike j).port]; exact h.onList j ((alike j).done.mp hj)
      counted := fun j => (h.counted j).trans
        (outstanding_congr fun i => by rw [Ne, (alike i).free, (alike i).source]).symm
      owner := fun hs r b j hb flying ho => by
        obtain ⟨state, region⟩ := h.owner hs r b j hb flying ho
        refine ⟨?_, (alike j).region.trans region⟩
        obtain hs | ⟨-, hs⟩ := (alike j).state
        · exact hs.trans state
        · exact hs
      marked := fun j k => (h.marked j k).trans (exists_congr fun i => ((alike i).steps j k).symm)
      markedOnce := fun i i' j k hi hi' =>
        h.markedOnce i i' j k (((alike i).steps j k).mp hi) (((alike i').steps j k).mp hi') }

end Sys2Proof.Machine

namespace Sys2Proof.Machine

/-! ## A context leaves its queue -/

theorem Region.queue_leave (g : Region) (i : CtxId) : (g.leave i).queue = g.queue.erase i := by
  unfold Region.leave
  split
  · rfl
  · rename_i hi
    exact (List.erase_of_not_mem (by simpa using hi)).symm

theorem Region.leave_frame (g : Region) (i : CtxId) :
    g.leave i = { g with queue := (g.leave i).queue, turn := (g.leave i).turn } := by
  unfold Region.leave
  split <;> rfl

theorem Region.turn_leave {g : Region} (i : CtxId) (h : g.turn ≤ g.queue.length) :
    (g.leave i).turn ≤ (g.leave i).queue.length := by
  unfold Region.leave
  split
  · rename_i hi
    have mem : i ∈ g.queue := by simpa using hi
    have before := List.idxOf_lt_length_of_mem mem
    dsimp only
    rw [List.length_erase_of_mem mem]
    split <;> omega
  · exact h

/-- The context `i` has left the region's queue, and nothing else changed of which the invariant speaks. -/
structure Region.Left (i : CtxId) (g k : Region) : Prop where
  queue : k.queue = g.queue.erase i
  turn : g.turn ≤ g.queue.length → k.turn ≤ k.queue.length
  burst : k.burst = g.burst
  state : k.state = g.state
  training : k.training = g.training

theorem Region.left_leave (g : Region) (i : CtxId) : g.Left i (g.leave i) := by
  refine ⟨g.queue_leave i, Region.turn_leave i, ?_, ?_, ?_⟩ <;> rw [Region.leave_frame]

theorem Region.Left.refl {g : Region} {i : CtxId} (hi : i ∉ g.queue) : g.Left i g :=
  ⟨(List.erase_of_not_mem hi).symm, id, rfl, rfl, rfl⟩

/-- No burst in flight is of the context `i`. -/
def State.Unowned (s : State) (i : CtxId) : Prop :=
  ∀ r b, (s.region r).burst = some b → b.abandoned = false → b.owner ≠ .ctx i

/-- What the end of the unfinished context `i` does to the pool. -/
structure Ends (s t : State) (i : CtxId) : Prop where
  regions : ∀ r, (s.region r).Left i (t.region r)
  state : (t.ctx i).state = .done
  port : (t.ctx i).port = (s.ctx i).port
  source : (t.ctx i).source = (s.ctx i).source
  others : ∀ j, j ≠ i → t.ctx j = s.ctx j
  delivery : ∀ p, (t.port p).delivery = if p = (s.ctx i).port then (s.port p).delivery ++ [i] else (s.port p).delivery
  counts : t.counts = s.counts
  sources : t.sources = s.sources
  pins : t.pins = s.pins
  stepped : ∀ j k, (s.ctx i).steps j k → (t.cursor j k).inFlight = false
  cursors : ∀ j k, ¬(s.ctx i).steps j k → t.cursor j k = s.cursor j k

namespace Pool

variable {strict : Prop} {s t : State}

theorem ends (h : Pool strict s) {i : CtxId} (a : Ends s t i) (queued : (s.ctx i).queued)
    (unowned : strict → s.Unowned i) : Pool strict t := by
  have notDone : (s.ctx i).state ≠ .done := by
    obtain hq | hq := queued <;> simp [hq]
  have notQueued : ¬(t.ctx i).queued := by simp [Context.queued, a.state]
  have ne_of_queued {j : CtxId} (hj : (t.ctx j).queued) : j ≠ i := fun e => notQueued (e ▸ hj)
  have mem_queue {r : RegionId} {j : CtxId} : j ∈ (t.region r).queue ↔ j ≠ i ∧ j ∈ (s.region r).queue := by
    rw [(a.regions r).queue, (h.queueOnce r).mem_erase_iff]
  have steps_of {j : CtxId} {x : SourceId} {k : Fin 2} (hj : (t.ctx j).steps x k) : j ≠ i ∧ (s.ctx j).steps x k := by
    have hji := ne_of_queued hj.1
    exact ⟨hji, a.others j hji ▸ hj⟩
  exact
    { queueOf := fun r j hj => by
        obtain ⟨hji, hj⟩ := mem_queue.mp hj
        rw [a.others j hji]
        exact h.queueOf r j hj
      inQueue := fun hs j hj => by
        have hji := ne_of_queued hj
        rw [a.others j hji] at hj ⊢
        exact mem_queue.mpr ⟨hji, h.inQueue hs j hj⟩
      queueOnce := fun r => (a.regions r).queue ▸ (h.queueOnce r).erase i
      pointer := fun r => (a.regions r).turn (h.pointer r)
      listOf := fun p j hj => by
        rw [a.delivery] at hj
        by_cases hji : j = i
        · subst hji
          refine ⟨a.state, a.port.trans ?_⟩
          by_contra hp
          rw [if_neg (Ne.symm hp)] at hj
          exact h.not_mem_delivery notDone hj
        · rw [a.others j hji]
          refine h.listOf p j ?_
          split at hj
          · simpa [hji] using hj
          · exact hj
      onList := fun j hj => by
        rw [a.delivery]
        by_cases hji : j = i
        · subst hji
          rw [a.port, if_pos rfl]
          simp
        · rw [a.others j hji] at hj ⊢
          have hl := h.onList j hj
          split
          · exact List.mem_append_left _ hl
          · exact hl
      listOnce := fun p => by
        rw [a.delivery]
        split
        · exact (h.listOnce p).append (List.nodup_singleton i)
            (List.disjoint_singleton.mpr (h.not_mem_delivery notDone))
        · exact h.listOnce p
      counted := fun j => by
        rw [State.count, a.counts]
        refine (h.counted j).trans (outstanding_congr fun x => ?_).symm
        by_cases hx : x = i
        · subst hx
          rw [a.source, a.state]
          obtain hq | hq := queued <;> simp [hq]
        · rw [a.others x hx]
      limited := fun j => by
        rw [State.count, State.source, a.counts, a.sources]
        exact h.limited j
      sound := fun r =>
        (h.sound r).of_eq (a.regions r).state (a.regions r).burst (congrArg Option.isSome (a.regions r).training)
      owner := fun hs r b j hb flying ho => by
        rw [(a.regions r).burst] at hb
        have hji : j ≠ i := fun e => unowned hs r b hb flying (e ▸ ho)
        rw [a.others j hji]
        exact h.owner hs r b j hb flying ho
      pinsHeld := fun r hr => (a.regions r).burst ▸ h.pinsHeld r (a.pins ▸ hr)
      marked := fun j k => by
        by_cases hi : (s.ctx i).steps j k
        · refine iff_of_false (by simp [a.stepped j k hi]) ?_
          rintro ⟨x, hx⟩
          obtain ⟨hxi, hx⟩ := steps_of hx
          exact hxi (h.markedOnce x i j k hx hi)
        · rw [a.cursors j k hi, h.marked]
          constructor
          · rintro ⟨x, hx⟩
            have hxi : x ≠ i := fun e => hi (e ▸ hx)
            exact ⟨x, (a.others x hxi).symm ▸ hx⟩
          · rintro ⟨x, hx⟩
            exact ⟨x, (steps_of hx).2⟩
      markedOnce := fun x y j k hx hy => h.markedOnce x y j k (steps_of hx).2 (steps_of hy).2
      markedSet := fun j k hm => by
        by_cases hi : (s.ctx i).steps j k
        · simp [a.stepped j k hi] at hm
        · rw [a.cursors j k hi] at hm ⊢
          exact h.markedSet j k hm }

end Pool

/-! ## The end of a context -/

/-- A context has ended and stands on the delivery list of its port, whether or not its transmitter is enabled. -/
def State.concluded (s : State) (i : CtxId) (st : Status) (ws : List Word) : State :=
  (((s.leaveQueue (s.ctx i).region i).clearMarker (s.ctx i)).setCtx i ((s.ctx i).ended st ws)).setPort (s.ctx i).port
    { s.port (s.ctx i).port with delivery := (s.port (s.ctx i).port).delivery ++ [i] }

/-- A context of a delivery list is released. -/
def State.delivered (s : State) (p : Port) (i : CtxId) : State :=
  (s.setPort p { s.port p with delivery := (s.port p).delivery.erase i }).release i

theorem setPort_setPort (s : State) (p : Port) (v w : PortState) : (s.setPort p v).setPort p w = s.setPort p w := by
  cases p <;> rfl

theorem setPort_port (s : State) (p : Port) : s.setPort p (s.port p) = s := by
  cases p <;> rfl

theorem port_clearMarker (s : State) (c : Context) (p : Port) : (s.clearMarker c).port p = s.port p := by
  unfold State.clearMarker
  split <;> rfl

/-- The end of a context, where its transmitter is disabled, is its conclusion and its release (R35). -/
theorem endCtx_concluded {s : State} {i : CtxId} (st : Status) (ws : List Word)
    (hi : i ∉ (s.port (s.ctx i).port).delivery) :
    s.endCtx i st ws =
      if (s.port (s.ctx i).port).txOn then s.concluded i st ws
      else (s.concluded i st ws).delivered (s.ctx i).port i := by
  rw [endCtx_eq]
  split
  · rfl
  · have erased : ((s.port (s.ctx i).port).delivery ++ [i]).erase i = (s.port (s.ctx i).port).delivery := by
      rw [List.erase_append_right _ hi]
      simp
    have same (u : State) (hu : u.port (s.ctx i).port = s.port (s.ctx i).port) :
        (u.setPort (s.ctx i).port
            { s.port (s.ctx i).port with delivery := (s.port (s.ctx i).port).delivery ++ [i] }).delivered
          (s.ctx i).port i = u.release i := by
      rw [State.delivered, port_setPort, setPort_setPort]
      dsimp only
      rw [erased, ← hu, setPort_port]
    exact (same _ (by rw [setCtx_port, port_clearMarker]; rfl)).symm

theorem forall_setCursor {s : State} {i : SourceId} {m : Fin 2} {c : Cursor} {p : SourceId → Fin 2 → Cursor → Prop}
    (hi : p i m c) (h : ∀ j k, (j = i → k ≠ m) → p j k (s.cursor j k)) (j : SourceId) (k : Fin 2) :
    p j k ((s.setCursor i m c).cursor j k) := by
  by_cases hj : j = i ∧ k = m
  · obtain ⟨rfl, rfl⟩ := hj
    simpa [State.setCursor, State.cursor] using hi
  · have ne : (cursorIndex i m).val ≠ (cursorIndex j k).val := by
      simp only [cursorIndex]
      intro e
      exact hj ⟨Fin.ext (by omega), Fin.ext (by omega)⟩
    have same : (s.setCursor i m c).cursor j k = s.cursor j k := by
      simp only [State.setCursor, State.cursor, Fin.getElem_fin]
      exact Vector.getElem_set_ne _ _ ne
    rw [same]
    exact h j k fun e e' => hj ⟨e, e'⟩

theorem left_leaveQueue {s : State} {i : CtxId} {q : RegionId} (elsewhere : ∀ r, r ≠ q → i ∉ (s.region r).queue) :
    ∀ r, (s.region r).Left i ((s.leaveQueue q i).region r) :=
  forall_setRegion_of_ne (p := fun r k => (s.region r).Left i k) (Region.left_leave _ i)
    fun r hr => .refl (elsewhere r hr)

theorem ends_concluded {s : State} {i : CtxId} (elsewhere : ∀ r, r ≠ (s.ctx i).region → i ∉ (s.region r).queue)
    (queued : (s.ctx i).queued) (st : Status) (ws : List Word) : Ends s (s.concluded i st ws) i where
  regions r := by
    have region : (s.concluded i st ws).region r = (s.leaveQueue (s.ctx i).region i).region r := by
      unfold State.concluded State.clearMarker
      split <;> rfl
    rw [region]
    exact left_leaveQueue elsewhere r
  state := by rw [State.concluded, setPort_ctx, ctx_setCtx]; rfl
  port := by rw [State.concluded, setPort_ctx, ctx_setCtx]; rfl
  source := by rw [State.concluded, setPort_ctx, ctx_setCtx]; rfl
  others j hj := by
    rw [State.concluded, setPort_ctx, ctx_setCtx_ne _ _ hj, ctx_clearMarker]
    rfl
  delivery p := by
    by_cases hp : p = (s.ctx i).port
    · subst hp
      rw [State.concluded, port_setPort, if_pos rfl]
    · rw [State.concluded, port_setPort_ne _ _ hp, setCtx_port, port_clearMarker, if_neg hp]
      rfl
  counts := by unfold State.concluded State.clearMarker; split <;> rfl
  sources := by unfold State.concluded State.clearMarker; split <;> rfl
  pins := by unfold State.concluded State.clearMarker; split <;> rfl
  stepped j k hi := by
    obtain ⟨-, cursor, rfl, rfl⟩ := hi
    unfold State.concluded State.clearMarker
    rw [setPort_cursor, setCtx_cursor, if_pos cursor]
    exact forall_setCursor (p := fun j k c => (j = (s.ctx i).source ∧ k = (s.ctx i).cursor) → c.inFlight = false)
      (fun _ => rfl) (fun j k h e => absurd e.2 (h e.1)) _ _ ⟨rfl, rfl⟩
  cursors j k hi := by
    unfold State.concluded State.clearMarker
    rw [setPort_cursor, setCtx_cursor]
    split
    · rename_i cursor
      exact forall_setCursor (s := s.leaveQueue (s.ctx i).region i)
        (p := fun j k c => ¬(s.ctx i).steps j k → c = s.cursor j k)
        (fun hn => absurd ⟨queued, cursor, rfl, rfl⟩ hn) (fun j k _ _ => rfl) j k hi
    · rfl

/-- The cursor that a context steps may have been written before its end (R130). -/
theorem Ends.of_setCursor {s t : State} {i : CtxId} {j : SourceId} {k : Fin 2} {cu : Cursor}
    (a : Ends (s.setCursor j k cu) t i) (steps : (s.ctx i).steps j k) : Ends s t i :=
  { a with
    cursors := fun x y hi => (a.cursors x y hi).trans
      (forall_setCursor (p := fun x y c => ¬(s.ctx i).steps x y → c = s.cursor x y) (fun hn => absurd steps hn)
        (fun _ _ _ _ => rfl) x y hi) }

end Sys2Proof.Machine

namespace Sys2Proof.Machine

theorem forall_setCount {s : State} {i : SourceId} {n : Nat} {p : SourceId → Nat → Prop} (hi : p i n)
    (h : ∀ j, j ≠ i → p j (s.count j)) (j : SourceId) : p j ((s.setCount i n).count j) := by
  by_cases hj : j = i
  · subst hj
    rwa [count_setCount]
  · rw [count_setCount_ne s n hj]
    exact h j hj

namespace Pool

variable {strict : Prop} {s : State} (h : Pool strict s)
include h

/-! ## Releases -/

theorem port_unique {p q : Port} {i : CtxId} (hp : i ∈ (s.port p).delivery) (hq : i ∈ (s.port q).delivery) : q = p :=
  (h.listOf q i hq).2.symm.trans (h.listOf p i hp).2

/-- A DONE context is released (R36). -/
theorem delivered {p : Port} {i : CtxId} (hi : i ∈ (s.port p).delivery) : Pool strict (s.delivered p i) := by
  obtain ⟨done, port⟩ := h.listOf p i hi
  have freed : (s.delivered p i).ctx i = .free := ctx_setCtx _ i _
  have others (j : CtxId) (hj : j ≠ i) : (s.delivered p i).ctx j = s.ctx j := ctx_release_ne _ hj
  have delivery (q : Port) : ((s.delivered p i).port q).delivery = (s.port q).delivery.erase i := by
    change ((s.setPort p { s.port p with delivery := (s.port p).delivery.erase i }).port q).delivery = _
    by_cases hq : q = p
    · subst hq
      rw [port_setPort]
    · rw [port_setPort_ne s _ hq]
      exact (List.erase_of_not_mem fun hm => hq (h.port_unique hi hm)).symm
  have queued {j : CtxId} : ((s.delivered p i).ctx j).queued ↔ (s.ctx j).queued := by
    by_cases hj : j = i
    · subst hj
      simp [freed, done, Context.queued, Context.free]
    · rw [others j hj]
  have ne_of_queued {j : CtxId} (hj : (s.ctx j).queued) : j ≠ i := by
    rintro rfl
    simp [Context.queued, done] at hj
  have steps {j : CtxId} {x : SourceId} {k : Fin 2} : ((s.delivered p i).ctx j).steps x k ↔ (s.ctx j).steps x k := by
    constructor
    · intro hj
      exact others j (ne_of_queued (queued.mp hj.1)) ▸ hj
    · intro hj
      exact (others j (ne_of_queued hj.1)).symm ▸ hj
  have set (j : SourceId) : (s.delivered p i).outstandingSet j = (s.outstandingSet j).erase i := by
    ext x
    rw [Finset.mem_erase, mem_outstandingSet, mem_outstandingSet]
    by_cases hx : x = i
    · subst hx
      simp [freed, Context.free]
    · simp [others x hx, hx]
  have count (j : SourceId) : (s.delivered p i).count j = s.outstanding j - if j = (s.ctx i).source then 1 else 0 := by
    refine forall_setCount (s := s) (i := (s.ctx i).source) (n := s.count (s.ctx i).source - 1) (p := fun j n => n = s.outstanding j - if j = (s.ctx i).source then 1 else 0) ?_
      (fun j hj => ?_) j
    · rw [if_pos rfl, ← h.counted]
    · rw [if_neg hj, Nat.sub_zero, h.counted]
  exact
    { h with
      queueOf := fun r j hj => by
        have hq := h.queueOf r j hj
        rw [others j (ne_of_queued hq.1)]
        exact hq
      inQueue := fun hs j hj => by
        have hj := queued.mp hj
        rw [others j (ne_of_queued hj)]
        exact h.inQueue hs j hj
      listOf := fun q j hj => by
        rw [delivery, (h.listOnce q).mem_erase_iff] at hj
        rw [others j hj.1]
        exact h.listOf q j hj.2
      onList := fun j hj => by
        have hji : j ≠ i := by
          rintro rfl
          simp [freed, Context.free] at hj
        rw [others j hji] at hj ⊢
        rw [delivery, (h.listOnce _).mem_erase_iff]
        exact ⟨hji, h.onList j hj⟩
      listOnce := fun q => delivery q ▸ (h.listOnce q).erase i
      counted := fun j => by
        rw [count, outstanding_eq_card, outstanding_eq_card, set]
        split
        · rename_i hj
          rw [Finset.card_erase_of_mem (mem_outstandingSet.mpr ⟨by simp [done], hj.symm⟩)]
        · rename_i hj
          rw [Finset.erase_eq_of_notMem fun hm => hj (mem_outstandingSet.mp hm).2.symm, Nat.sub_zero]
      limited := fun j => by
        have hl := h.limited j
        rw [h.counted] at hl
        exact ⟨by rw [count]; exact (Nat.sub_le _ _).trans hl.1, hl.2⟩
      owner := fun hs r b j hb flying ho => by
        have hj := h.owner hs r b j hb flying ho
        rw [others j (ne_of_queued (.inr hj.1))]
        exact hj
      marked := fun j k => (h.marked j k).trans (exists_congr fun _ => steps.symm)
      markedOnce := fun x y j k hx hy => h.markedOnce x y j k (steps.mp hx) (steps.mp hy) }

/-- The head of a delivery list is released (R151). -/
theorem deliver {p : Port} {i : CtxId} {rest : List CtxId} (hl : (s.port p).delivery = i :: rest) :
    Pool strict ((s.setPort p { s.port p with delivery := rest }).release i) := by
  have released := h.delivered (p := p) (i := i) (by simp [hl])
  rwa [State.delivered, hl, List.erase_cons_head] at released

/-! ## Endings -/

theorem endCtx {i : CtxId} (queued : (s.ctx i).queued) (unowned : strict → s.Unowned i) (st : Status) (ws : List Word) :
    Pool strict (s.endCtx i st ws) := by
  have notDone : (s.ctx i).state ≠ .done := by
    obtain hq | hq := queued <;> simp [hq]
  have a := ends_concluded (s := s) (i := i) (fun r hr hi => hr (h.queueOf r i hi).2.symm) queued st ws
  have concluded := h.ends a queued unowned
  rw [endCtx_concluded st ws (h.not_mem_delivery notDone)]
  split
  · exact concluded
  · refine concluded.delivered ?_
    rw [a.delivery, if_pos rfl]
    simp

/-- A context in whose region nothing is in flight owns no burst in flight. -/
theorem unowned_of_quiet {i : CtxId} (quiet : strict → (s.region (s.ctx i).region).inFlight = false) (hs : strict) :
    s.Unowned i := by
  intro r b hb flying ho
  obtain ⟨-, rfl⟩ := h.owner hs r b i hb flying ho
  have quiet := quiet hs
  simp [Region.inFlight, hb, flying] at quiet

omit h

theorem region_endCtx (s : State) (i : CtxId) (st : Status) (ws : List Word) (r : RegionId) :
    (s.endCtx i st ws).region r =
      if r = (s.ctx i).region then (s.region r).leave i else s.region r := by
  have region : (s.endCtx i st ws).region r = (s.leaveQueue (s.ctx i).region i).region r := by
    rw [endCtx_eq]
    unfold State.clearMarker
    split <;> split <;> rfl
  rw [region]
  split
  · rename_i hr
    subst hr
    rw [State.leaveQueue, region_setRegion]
  · rename_i hr
    rw [State.leaveQueue, region_setRegion_ne s _ hr]

theorem inFlight_endCtx (s : State) (i : CtxId) (st : Status) (ws : List Word) (r : RegionId) :
    ((s.endCtx i st ws).region r).inFlight = (s.region r).inFlight := by
  rw [region_endCtx]
  split
  · rw [Region.leave_frame]
    rfl
  · rfl

/-- Unfinished contexts end one after another. -/
theorem endAll {l : List CtxId} {s : State} (h : Pool strict s) (once : l.Nodup) (queued : ∀ i ∈ l, (s.ctx i).queued)
    (quiet : strict → ∀ i ∈ l, (s.region (s.ctx i).region).inFlight = false) (st : Status) :
    Pool strict (s.endAll l st) := by
  unfold State.endAll
  induction l generalizing s with
  | nil => exact h
  | cons i l ih =>
    obtain ⟨fresh, once⟩ := List.nodup_cons.mp once
    have others (j : CtxId) (hj : j ∈ l) : (s.endCtx i st []).ctx j = s.ctx j :=
      ctx_endCtx_ne s st [] fun e => fresh (e ▸ hj)
    refine ih (h.endCtx (queued i (by simp)) (fun hs => h.unowned_of_quiet (fun hs => quiet hs i (by simp)) hs) st [])
      once (fun j hj => ?_) fun hs j hj => ?_
    · rw [others j hj]
      exact queued j (by simp [hj])
    · rw [others j hj, inFlight_endCtx]
      exact quiet hs j (by simp [hj])

end Pool

end Sys2Proof.Machine

namespace Sys2Proof.Machine

/-! ## Regions that are left by all their contexts -/

theorem Region.halt_kept (g : Region) : g.Kept g.halt := by
  rw [Region.halt_eq]
  refine ⟨rfl, rfl, fun b hb flying => ?_, fun hb => by simpa using hb⟩
  obtain ⟨x, -, rfl⟩ := Option.map_eq_some_iff.mp hb
  cases flying

theorem Region.halt_quiet (g : Region) : g.halt.inFlight = false := by
  rw [Region.halt_eq]
  exact quiet_of_abandoned rfl

theorem ctx_endAll_ne (l : List CtxId) (s : State) (st : Status) {j : CtxId} (hj : j ∉ l) :
    (s.endAll l st).ctx j = s.ctx j := by
  unfold State.endAll
  induction l generalizing s with
  | nil => rfl
  | cons i l ih =>
    rw [List.mem_cons, not_or] at hj
    exact (ih _ hj.2).trans (ctx_endCtx_ne s st [] hj.1)

theorem inFlight_endAll (l : List CtxId) (s : State) (st : Status) (r : RegionId) :
    ((s.endAll l st).region r).inFlight = (s.region r).inFlight := by
  unfold State.endAll
  induction l generalizing s with
  | nil => rfl
  | cons i l ih => exact (ih _).trans (Pool.inFlight_endCtx s i st [] r)

namespace Pool

variable {strict : Prop} {s : State} (h : Pool strict s)
include h

/-- A region whose queue is emptied once no unfinished context is left in it. -/
theorem emptyQueue {r : RegionId} {g : Region} (left : strict → ∀ i, (s.ctx i).queued → (s.ctx i).region ≠ r)
    (queue : g.queue = []) (turn : g.turn = 0) (burst : g.burst = (s.region r).burst) (sound : g.Sound strict) :
    Pool strict (s.setRegion r g) := by
  have shrinks := forall_setRegion (s := s) (r := r) (g := g) (p := fun x k => ∀ i ∈ k.queue, i ∈ (s.region x).queue)
    (by simp [queue]) fun _ _ => id
  have bursts := forall_setRegion (s := s) (r := r) (g := g) (p := fun x k => k.burst = (s.region x).burst) burst
    fun _ => rfl
  exact
    { h with
      queueOf := fun x i hi => h.queueOf x i (shrinks x i hi)
      inQueue := fun hs i hi => by
        change i ∈ ((s.setRegion r g).region (s.ctx i).region).queue
        rw [region_setRegion_ne s g (left hs i hi)]
        exact h.inQueue hs i hi
      queueOnce := forall_setRegion (p := fun _ k => k.queue.Nodup) (by simp [queue]) h.queueOnce
      pointer := forall_setRegion (p := fun _ k => k.turn ≤ k.queue.length) (by simp [turn]) h.pointer
      sound := forall_setRegion (p := fun _ k => k.Sound strict) sound h.sound
      owner := fun hs x b i hb => h.owner hs x b i (bursts x ▸ hb)
      pinsHeld := fun x hx => bursts x ▸ h.pinsHeld x hx }

/-- Entry into OFFLINE (R95): every context of the queue has ended. -/
theorem enterOffline {r : RegionId} (quiet : strict → (s.region r).inFlight = false) : Pool strict (s.enterOffline r) := by
  have ended : Pool strict (s.endAll (s.region r).queue .regionOffline) :=
    h.endAll (h.queueOnce r) (fun i hi => (h.queueOf r i hi).1) (fun hs i hi => (h.queueOf r i hi).2 ▸ quiet hs) _
  refine ended.emptyQueue (fun hs i hi hr => ?_) rfl rfl rfl
    (.of_idle (fun hs => (inFlight_endAll ..).trans (quiet hs)) rfl fun _ => rfl)
  by_cases hl : i ∈ (s.region r).queue
  · have finished := finished_endAll _ s .regionOffline i (.inl hl)
    obtain hq | hq := hi <;> obtain hf | hf := finished <;> rw [hq] at hf <;> cases hf
  · rw [ctx_endAll_ne _ s _ hl] at hi hr
    exact hl (hr ▸ h.inQueue hs i hi)

/-! ## Faults -/

theorem poisonEntry (f : FaultItem) : Pool strict (s.poisonEntry f) := by
  cases f with
  | profile r g => exact h.setRegister rfl rfl rfl rfl rfl
  | _ => exact { h with }

theorem contain (f : FaultItem) : Pool strict (s.contain f) := by
  let u : State := { s with record := some { item := f, prior := s.mode }, mode := .contained, failPin := true }
  have poisoned : Pool strict (u.poisonEntry f) := Pool.poisonEntry (s := u) { h with } f
  let v : State := { u.poisonEntry f with
    regions := (u.poisonEntry f).regions.map Region.halt, holder := none, waiting := [] }
  have region (r : RegionId) : v.region r = ((u.poisonEntry f).region r).halt := region_map _ Region.halt r
  have halted : Pool strict v := by
    have regions := poisoned.setRegions (v := (u.poisonEntry f).regions.map Region.halt)
      (fun r => by rw [region_map]; exact Region.halt_kept _) fun r => by
        rw [region_map]
        exact ⟨fun _ hf => by simp [Region.halt_quiet] at hf, fun _ ht => by simp [Region.halt_eq] at ht⟩
    exact { regions with }
  have ended : Pool strict (v.endAll v.unfinished .contained) :=
    halted.endAll ((List.nodup_finRange 32).filter _) (fun i hi => mem_unfinished.mp hi)
      (fun _ i _ => by rw [region]; exact Region.halt_quiet _) _
  exact { ended with }

theorem takeFault (f : FaultItem) : Pool strict (s.takeFault f) := by
  unfold State.takeFault
  split
  · exact { h.poisonEntry f with }
  · exact h.contain f

theorem faultAt (k : CheckKind) (f : FaultItem) : Pool strict (s.faultAt k f) :=
  Pool.takeFault (s := { s with inject := s.inject.consume k }) { h with } f

end Pool

/-! ## Bursts -/

theorem mem_of_firstEligible {s : State} {queue : List CtxId} {l : List (Nat × CtxId)} {x : Nat × CtxId}
    (h : s.firstEligible queue l = some x) : x ∈ l := by
  induction l with
  | nil => cases h
  | cons y l ih =>
    unfold State.firstEligible at h
    split at h
    · exact List.mem_cons_of_mem _ (ih h)
    · exact Option.some.inj h ▸ List.mem_cons_self

theorem mem_scanOrder {queue : List CtxId} {turn k : Nat} {i : CtxId} (h : (k, i) ∈ scanOrder queue turn) :
    queue[k]? = some i := by
  have places : (k, i) ∈ queue.mapIdx fun k i => (k, i) := by
    obtain h | h := List.mem_append.mp h
    · exact List.mem_of_mem_drop h
    · exact List.mem_of_mem_take h
  obtain ⟨n, hn, e⟩ := List.mem_mapIdx.mp places
  obtain ⟨rfl, rfl⟩ := Prod.mk.inj e
  exact List.getElem?_eq_getElem hn

theorem getElem?_of_nextTurn {s : State} {r : RegionId} {k : Nat} {i : CtxId} (h : s.nextTurn r = some (k, i)) :
    (s.region r).queue[k]? = some i := mem_scanOrder (mem_of_firstEligible h)

theorem Context.openAccess_alike (c : Context) {d : Context} (queued : c.queued)
    (hd : d = { c.openAccess with state := .serving, pieces := d.pieces, parityOk := d.parityOk }) : c.Alike d := by
  have kept : c.openAccess.region = c.region ∧ c.openAccess.port = c.port ∧ c.openAccess.source = c.source ∧
      c.openAccess.kind = c.kind ∧ c.openAccess.cursor = c.cursor := by
    unfold Context.openAccess
    split <;> exact ⟨rfl, rfl, rfl, rfl, rfl⟩
  obtain ⟨region, port, source, kind, cursor⟩ := kept
  rw [hd]
  exact ⟨.inr ⟨queued, rfl⟩, region, port, source, kind, cursor⟩

namespace Pool

variable {strict : Prop} {s : State} (h : Pool strict s)
include h

/-- A burst is issued on a free bus (R57). -/
theorem setBurst {r : RegionId} {g : Region} {b : Burst} (online : (s.region r).state = .online)
    (queue : g.queue = (s.region r).queue) (turn : g.turn ≤ g.queue.length) (state : g.state = (s.region r).state)
    (training : g.training = (s.region r).training) (burst : g.burst = some b)
    (owner : ∀ i, b.owner = .ctx i → (s.ctx i).state = .serving ∧ (s.ctx i).region = r) : Pool strict (s.setRegion r g) := by
  have queues := forall_setRegion (s := s) (r := r) (g := g) (p := fun x k => k.queue = (s.region x).queue) queue
    fun _ => rfl
  exact
    { h with
      queueOf := fun x i hi => h.queueOf x i (queues x ▸ hi)
      inQueue := fun hs i hi => queues _ ▸ h.inQueue hs i hi
      queueOnce := fun x => queues x ▸ h.queueOnce x
      pointer := forall_setRegion (p := fun _ k => k.turn ≤ k.queue.length) turn h.pointer
      sound := forall_setRegion (p := fun _ k => k.Sound strict)
        ⟨fun _ _ => .inl (state.trans online), fun hs ht => state.trans ((h.sound r).training hs (training ▸ ht))⟩ h.sound
      owner := fun hs => forall_setRegion
        (p := fun x k => ∀ b i, k.burst = some b → b.abandoned = false → b.owner = .ctx i →
          (s.ctx i).state = .serving ∧ (s.ctx i).region = x)
        (fun c i hc _ ho => owner i (Option.some.inj (burst.symm.trans hc) ▸ ho)) (h.owner hs)
      pinsHeld := forall_setRegion (p := fun x k => s.pins = some x → k.burst.isSome = true)
        (fun _ => by simp [burst]) h.pinsHeld }

theorem issueCtx {r : RegionId} {k : Nat} {i : CtxId} (online : (s.region r).state = .online)
    (turn : s.nextTurn r = some (k, i)) : Pool strict (s.issueCtx r k i) := by
  have place := getElem?_of_nextTurn turn
  obtain ⟨hk, -⟩ := List.getElem?_eq_some_iff.mp place
  obtain ⟨queued, region⟩ := h.queueOf r i (List.mem_of_getElem? place)
  unfold State.issueCtx
  dsimp only
  split
  · exact h
  · rename_i pc rest _
    have served : Pool strict
        (s.setCtx i { (s.ctx i).openAccess with state := .serving, pieces := some rest, parityOk := true }) :=
      h.setCtx ((s.ctx i).openAccess_alike queued rfl)
    refine served.setBurst online rfl hk rfl rfl rfl fun j hj => ?_
    obtain rfl := BurstOwner.ctx.inj hj
    rw [ctx_setCtx]
    refine ⟨rfl, Eq.trans ?_ region⟩
    exact ((s.ctx i).openAccess_alike queued rfl).region

theorem issuePatrol {r : RegionId} (pc : Piece) (pr : PatrolRead) (online : (s.region r).state = .online) :
    Pool strict (s.setRegion r { (s.region r).issue .patrol pc false [] with patrolRead := some pr }) :=
  h.setBurst online rfl (h.pointer r) rfl rfl rfl nofun

/-- A burst leaves the bus with the pins that it holds (R71). -/
theorem burstMoved (r : RegionId) (b : Burst) (taken : Nat → Bool) : Pool strict (s.burstMoved r b taken) := by
  have ended : (s.region r).endBurst =
      { s.region r with burst := none, patrol := (s.region r).written.getD (s.region r).patrol, written := none } :=
    Region.admitPatrol_of_quiet rfl
  have free : Pool strict { s with mem := b.land r taken s.mem, pins := none } := { h with pinsHeld := nofun }
  have regions (v : Region) (queue : v.queue = (s.region r).queue) (turn : v.turn = (s.region r).turn)
      (state : v.state = (s.region r).state) (training : v.training = (s.region r).training) (burst : v.burst = none) :
      Pool strict ({ s with mem := b.land r taken s.mem, pins := none }.setRegion r v) := by
    have queues := forall_setRegion (s := s) (r := r) (g := v)
      (p := fun x k => k.queue = (s.region x).queue ∧ k.turn = (s.region x).turn) ⟨queue, turn⟩ fun _ => ⟨rfl, rfl⟩
    exact
      { free with
        queueOf := fun x i hi => h.queueOf x i ((queues x).1 ▸ hi)
        inQueue := fun hs i hi => (queues _).1 ▸ h.inQueue hs i hi
        queueOnce := fun x => (queues x).1 ▸ h.queueOnce x
        pointer := fun x => (queues x).1 ▸ (queues x).2 ▸ h.pointer x
        sound := forall_setRegion (p := fun _ k => k.Sound strict)
          ⟨fun _ hf => by simp [Region.inFlight, burst] at hf,
            fun hs ht => state.trans ((h.sound r).training hs (training ▸ ht))⟩ h.sound
        owner := fun hs => forall_setRegion
          (p := fun x k => ∀ b i, k.burst = some b → b.abandoned = false → b.owner = .ctx i →
            (s.ctx i).state = .serving ∧ (s.ctx i).region = x)
          (fun c i hc => by rw [burst] at hc; cases hc) (h.owner hs)
        pinsHeld := nofun }
  rw [State.burstMoved, ended]
  exact regions _ rfl rfl rfl rfl rfl

end Pool

end Sys2Proof.Machine

namespace Sys2Proof.Machine

/-! ## New contexts -/

/-- What the pool needs of a new context: it waits, and a cursor step's cursor is SET and not in flight (R125). -/
structure Context.Fresh (s : State) (c : Context) : Prop where
  state : c.state = .waiting
  cursor : c.kind.isCursor = true →
    (s.cursor c.source c.cursor).isSet = true ∧ (s.cursor c.source c.cursor).inFlight = false

theorem accessContext_head (p : Port) (h : Hdr) (k : ReqKind) (d : Descriptor) (eff ring : Ring) (f n : Nat)
    (pl : List Word) : (accessContext p h k d eff ring f n pl).state = .waiting ∧
      (accessContext p h k d eff ring f n pl).kind = k := by
  unfold accessContext
  dsimp only
  split <;> exact ⟨rfl, rfl⟩

theorem stepRefusal_eq_none_iff (cu : Cursor) :
    cu.stepRefusal = none ↔ cu.isSet = true ∧ cu.inFlight = false ∧ cu.count ≠ 0 := by
  unfold Cursor.stepRefusal
  split
  · simp_all
  · split
    · simp_all
    · split <;> simp_all

theorem AdmittedContext.fresh {s : State} {c : Context} (a : AdmittedContext s c) : c.Fresh s := by
  cases a with
  | access p h k seg eff ring f n pl kind passed =>
    obtain ⟨state, hk⟩ := accessContext_head p h k (s.segment seg) eff ring f n pl
    refine ⟨state, fun cursor => ?_⟩
    rw [hk] at cursor
    obtain rfl | rfl | rfl := kind <;> cases cursor
  | journal p h k seg eff ring f pl kind passed =>
    refine ⟨rfl, fun cursor => ?_⟩
    obtain rfl | rfl := kind <;> cases cursor
  | cursorStep p h k idx pl kind ready passed =>
    obtain ⟨isSet, inFlight, -⟩ := (stepRefusal_eq_none_iff _).mp ready
    exact ⟨rfl, fun _ => ⟨isSet, inFlight⟩⟩

/-- The state with a context allocated, before its cursor is marked. -/
def State.placed (s : State) (i : CtxId) (c : Context) : State :=
  ((s.setCtx i c).setCount c.source (s.count c.source + 1)).enterQueue c.region i

theorem allocate_eq (s : State) (i : CtxId) (c : Context) :
    s.allocate i c =
      if c.kind.isCursor then
        (s.placed i c).setCursor c.source c.cursor { s.cursor c.source c.cursor with inFlight := true }
      else s.placed i c := rfl

theorem free_of_freeCtx {s : State} {i : CtxId} (h : s.freeCtx = some i) : (s.ctx i).state = .free := by
  simpa using List.find?_some h

theorem not_steps_of_free {s : State} {i : CtxId} (free : (s.ctx i).state = .free) (j : SourceId) (k : Fin 2) :
    ¬(s.ctx i).steps j k := fun hi => by simp [Context.steps, Context.queued, free] at hi

namespace Pool

variable {strict : Prop} {s : State} (h : Pool strict s)
include h

/-- A request is given a FREE context (R24). -/
theorem allocate {i : CtxId} {c : Context} (fresh : c.Fresh s) (room : s.count c.source < (s.source c.source).limit)
    (free : (s.ctx i).state = .free) : Pool strict (s.allocate i c) := by
  have queued : c.queued := .inl fresh.state
  have notQueued : ¬(s.ctx i).queued := by simp [Context.queued, free]
  have notDone : (s.ctx i).state ≠ .done := by simp [free]
  have parts : (s.allocate i c).ctxs = (s.setCtx i c).ctxs ∧ (s.allocate i c).regions = (s.enterQueue c.region i).regions ∧
      (s.allocate i c).counts = (s.setCount c.source (s.count c.source + 1)).counts ∧
      (s.allocate i c).ports = s.ports ∧ (s.allocate i c).sources = s.sources ∧ (s.allocate i c).pins = s.pins := by
    rw [allocate_eq]
    split <;> exact ⟨rfl, rfl, rfl, rfl, rfl, rfl⟩
  obtain ⟨ctxs, regions, counts, ports, sources, pins⟩ := parts
  have ctx (j : CtxId) : (s.allocate i c).ctx j = (s.setCtx i c).ctx j := by rw [State.ctx, ctxs]; rfl
  have region (r : RegionId) : (s.allocate i c).region r = (s.enterQueue c.region i).region r := by
    rw [State.region, regions]; rfl
  have count (j : SourceId) : (s.allocate i c).count j = (s.setCount c.source (s.count c.source + 1)).count j := by
    rw [State.count, counts]; rfl
  have port (p : Port) : (s.allocate i c).port p = s.port p := by cases p <;> simp only [State.port, ports]
  have source (j : SourceId) : (s.allocate i c).source j = s.source j := by rw [State.source, sources]; rfl
  have new : (s.allocate i c).ctx i = c := by rw [ctx, ctx_setCtx]
  have others (j : CtxId) (hj : j ≠ i) : (s.allocate i c).ctx j = s.ctx j := by rw [ctx, ctx_setCtx_ne s c hj]
  have entered (r : RegionId) :
      ((s.allocate i c).region r).queue = (s.region r).queue ++ (if r = c.region then [i] else []) ∧
        ((s.allocate i c).region r).turn = (s.region r).turn ∧
        ((s.allocate i c).region r).burst = (s.region r).burst ∧
        ((s.allocate i c).region r).state = (s.region r).state ∧
        ((s.allocate i c).region r).training = (s.region r).training := by
    rw [region]
    exact forall_setRegion_of_ne (s := s) (r := c.region) (g := (s.region c.region).enter i)
      (p := fun r k => k.queue = (s.region r).queue ++ (if r = c.region then [i] else []) ∧
        k.turn = (s.region r).turn ∧ k.burst = (s.region r).burst ∧ k.state = (s.region r).state ∧
        k.training = (s.region r).training)
      (by simp [Region.enter]) (fun r hr => by simp [hr]) r
  have mem_queue {r : RegionId} {j : CtxId} :
      j ∈ ((s.allocate i c).region r).queue ↔ j ∈ (s.region r).queue ∨ r = c.region ∧ j = i := by
    rw [(entered r).1, List.mem_append]
    split <;> simp [*]
  have steps {j : CtxId} {x : SourceId} {k : Fin 2} (hj : j ≠ i) :
      ((s.allocate i c).ctx j).steps x k ↔ (s.ctx j).steps x k := by rw [others j hj]
  have marker (j : SourceId) (k : Fin 2) :
      (c.steps j k → ((s.allocate i c).cursor j k).inFlight = true ∧ ((s.allocate i c).cursor j k).isSet = true ∧
        (s.cursor j k).inFlight = false) ∧
      (¬c.steps j k → (s.allocate i c).cursor j k = s.cursor j k) := by
    rw [allocate_eq]
    split
    · rename_i cursor
      obtain ⟨isSet, idle⟩ := fresh.cursor cursor
      refine forall_setCursor (s := s.placed i c)
        (c := { s.cursor c.source c.cursor with inFlight := true }) (p := fun j k x => (c.steps j k → x.inFlight = true ∧ x.isSet = true ∧
        (s.cursor j k).inFlight = false) ∧ (¬c.steps j k → x = s.cursor j k)) ⟨fun _ => ⟨rfl, isSet, idle⟩, fun hn => ?_⟩
        (fun j k ne => ⟨fun hn => ?_, fun _ => rfl⟩) j k
      · exact absurd ⟨queued, cursor, rfl, rfl⟩ hn
      · exact absurd hn.2.2.2.symm (ne hn.2.2.1.symm)
    · rename_i cursor
      exact ⟨fun hc => absurd hc.2.1 cursor, fun _ => rfl⟩
  have set (j : SourceId) : (s.allocate i c).outstandingSet j =
      if j = c.source then insert i (s.outstandingSet j) else s.outstandingSet j := by
    ext x
    by_cases hx : x = i
    · subst hx
      split <;> simp [mem_outstandingSet, fresh.state, eq_comm, *]
    · split <;> simp [mem_outstandingSet, others x hx, hx]
  have counted (j : SourceId) : (s.allocate i c).count j = (s.allocate i c).outstanding j := by
    rw [outstanding_eq_card, set, count]
    refine forall_setCount (s := s) (i := c.source) (n := s.count c.source + 1)
      (p := fun j n => n = (if j = c.source then insert i (s.outstandingSet j) else s.outstandingSet j).card) ?_
      (fun j hj => ?_) j
    · rw [if_pos rfl, Finset.card_insert_of_notMem (by simp [mem_outstandingSet, free]), h.counted, outstanding_eq_card]
    · rw [if_neg hj, h.counted, outstanding_eq_card]
  exact
    { queueOf := fun r j hj => by
        obtain hj | ⟨rfl, rfl⟩ := mem_queue.mp hj
        · have hq := h.queueOf r j hj
          rw [others j fun e => notQueued (e ▸ hq.1)]
          exact hq
        · rw [new]
          exact ⟨queued, rfl⟩
      inQueue := fun hs j hj => by
        refine mem_queue.mpr ?_
        by_cases hji : j = i
        · rw [hji, new]
          exact .inr ⟨rfl, rfl⟩
        · rw [others j hji] at hj ⊢
          exact .inl (h.inQueue hs j hj)
      queueOnce := fun r => by
        rw [(entered r).1]
        split
        · exact (h.queueOnce r).append (List.nodup_singleton i)
            (List.disjoint_singleton.mpr (h.not_mem_queue notQueued))
        · simpa using h.queueOnce r
      pointer := fun r => by
        have hr := h.pointer r
        rw [(entered r).1, (entered r).2.1, List.length_append]
        omega
      listOf := fun p j hj => by
        rw [port] at hj
        have hl := h.listOf p j hj
        rwa [others j fun e => notDone (e ▸ hl.1)]
      onList := fun j hj => by
        have hji : j ≠ i := by
          rintro rfl
          simp [new, fresh.state] at hj
        rw [others j hji] at hj ⊢
        rw [port]
        exact h.onList j hj
      listOnce := fun p => port p ▸ h.listOnce p
      counted := counted
      limited := fun j => by
        rw [source, count]
        exact forall_setCount (p := fun j n => n ≤ (s.source j).limit ∧ 1 ≤ (s.source j).limit ∧ (s.source j).limit ≤ 8)
          ⟨room, (h.limited _).2⟩ (fun j _ => h.limited j) j
      sound := fun r => by
        obtain ⟨-, -, burst, state, training⟩ := entered r
        exact (h.sound r).of_eq state burst (congrArg Option.isSome training)
      owner := fun hs r b j hb flying ho => by
        rw [(entered r).2.2.1] at hb
        have hj := h.owner hs r b j hb flying ho
        rwa [others j fun e => notQueued (.inr (e ▸ hj.1))]
      pinsHeld := fun r hr => by
        rw [(entered r).2.2.1]
        exact h.pinsHeld r (pins ▸ hr)
      marked := fun j k => by
        by_cases hc : c.steps j k
        · exact iff_of_true ((marker j k).1 hc).1 ⟨i, new.symm ▸ hc⟩
        · rw [(marker j k).2 hc, h.marked]
          refine exists_congr fun x => ?_
          by_cases hx : x = i
          · rw [hx, new]
            exact iff_of_false (not_steps_of_free free j k) hc
          · exact (steps hx).symm
      markedOnce := fun x y j k hx hy => by
        have alone {z : CtxId} (hz : ((s.allocate i c).ctx z).steps j k) (hc : c.steps j k) : z = i := by
          by_contra hzi
          have := (h.marked j k).mpr ⟨z, (steps hzi).mp hz⟩
          simp [((marker j k).1 hc).2.2] at this
        by_cases hxi : x = i
        · subst hxi
          exact (alone hy (new ▸ hx)).symm
        · by_cases hyi : y = i
          · subst hyi
            exact absurd (alone hx (new ▸ hy)) hxi
          · exact h.markedOnce x y j k ((steps hxi).mp hx) ((steps hyi).mp hy)
      markedSet := fun j k hm => by
        by_cases hc : c.steps j k
        · exact ((marker j k).1 hc).2.1
        · rw [(marker j k).2 hc] at hm ⊢
          exact h.markedSet j k hm }

end Pool

end Sys2Proof.Machine

namespace Sys2Proof.Machine

/-! ## The move to stage MAIN -/

theorem Context.resolve_head (c : Context) (d : Descriptor) (t n : Nat) :
    (c.resolve d t n).state = .waiting ∧ (c.resolve d t n).region = d.region ∧ (c.resolve d t n).port = c.port ∧
      (c.resolve d t n).source = c.source ∧ (c.resolve d t n).kind = c.kind ∧ (c.resolve d t n).cursor = c.cursor :=
  ⟨rfl, rfl, rfl, rfl, rfl, rfl⟩

namespace Pool

variable {strict : Prop} {s : State} (h : Pool strict s)
include h

/-- A context moves from the queue of its link word's region to the tail of its target's (R47). -/
theorem moveToTarget {i : CtxId} (queued : (s.ctx i).queued) (unowned : strict → s.Unowned i) (d : Descriptor)
    (ring : Ring) (o : Nat) : Pool strict (s.moveToTarget i d ring o) := by
  obtain ⟨state, target, port, source, kind, cursor⟩ :=
    Context.resolve_head { s.ctx i with ring := ring } d o (s.ctx i).opLength
  have left := left_leaveQueue (s := s) (i := i) (q := (s.ctx i).region) fun r hr hi => hr (h.queueOf r i hi).2.symm
  have moved : (s.moveToTarget i d ring o).ctx i = { s.ctx i with ring := ring }.resolve d o (s.ctx i).opLength :=
    ctx_setCtx _ i _
  have others (j : CtxId) (hj : j ≠ i) : (s.moveToTarget i d ring o).ctx j = s.ctx j := ctx_setCtx_ne _ _ hj
  have regions (r : RegionId) : ((s.moveToTarget i d ring o).region r).queue =
        (s.region r).queue.erase i ++ (if r = d.region then [i] else []) ∧
      ((s.moveToTarget i d ring o).region r).turn ≤ ((s.moveToTarget i d ring o).region r).queue.length ∧
      ((s.moveToTarget i d ring o).region r).burst = (s.region r).burst ∧
      ((s.moveToTarget i d ring o).region r).state = (s.region r).state ∧
      ((s.moveToTarget i d ring o).region r).training = (s.region r).training := by
    have turn (x : RegionId) := (left x).turn (h.pointer x)
    exact forall_setRegion_of_ne (s := s.leaveQueue (s.ctx i).region i) (r := d.region)
      (g := ((s.leaveQueue (s.ctx i).region i).region d.region).enter i)
      (p := fun r k => k.queue = (s.region r).queue.erase i ++ (if r = d.region then [i] else []) ∧
        k.turn ≤ k.queue.length ∧ k.burst = (s.region r).burst ∧ k.state = (s.region r).state ∧
        k.training = (s.region r).training)
      ⟨by rw [if_pos rfl, ← (left d.region).queue]; rfl,
        (turn d.region).trans (by simp [Region.enter]), (left d.region).burst, (left d.region).state,
        (left d.region).training⟩
      (fun r hr => ⟨by rw [if_neg hr, List.append_nil, (left r).queue], turn r, (left r).burst, (left r).state,
        (left r).training⟩) r
  have mem_queue {r : RegionId} {j : CtxId} : j ∈ ((s.moveToTarget i d ring o).region r).queue ↔
      (j ≠ i ∧ j ∈ (s.region r).queue) ∨ (r = d.region ∧ j = i) := by
    rw [(regions r).1, List.mem_append, (h.queueOnce r).mem_erase_iff]
    split <;> simp [*]
  have alike (j : CtxId) : (((s.moveToTarget i d ring o).ctx j).queued ↔ (s.ctx j).queued) ∧
      (((s.moveToTarget i d ring o).ctx j).state = .done ↔ (s.ctx j).state = .done) ∧
      (((s.moveToTarget i d ring o).ctx j).state = .free ↔ (s.ctx j).state = .free) ∧
      ((s.moveToTarget i d ring o).ctx j).port = (s.ctx j).port ∧
      ((s.moveToTarget i d ring o).ctx j).source = (s.ctx j).source ∧
      ((s.moveToTarget i d ring o).ctx j).kind = (s.ctx j).kind ∧
      ((s.moveToTarget i d ring o).ctx j).cursor = (s.ctx j).cursor := by
    by_cases hj : j = i
    · subst hj
      rw [moved]
      refine ⟨iff_of_true (.inl state) queued, ?_, ?_, port, source, kind, cursor⟩
      all_goals
        rw [state]
        obtain hq | hq := queued <;> simp [hq]
    · simp [others j hj]
  have steps (j : CtxId) (x : SourceId) (k : Fin 2) :
      ((s.moveToTarget i d ring o).ctx j).steps x k ↔ (s.ctx j).steps x k := by
    obtain ⟨hq, -, -, -, hs, hk, hc⟩ := alike j
    rw [Context.steps, Context.steps, hq, hs, hk, hc]
  exact
    { h with
      queueOf := fun r j hj => by
        obtain ⟨hji, hj⟩ | ⟨rfl, rfl⟩ := mem_queue.mp hj
        · rw [others j hji]
          exact h.queueOf r j hj
        · rw [moved]
          exact ⟨.inl state, target⟩
      inQueue := fun hs j hj => by
        refine mem_queue.mpr ?_
        by_cases hji : j = i
        · rw [hji, moved]
          exact .inr ⟨target, rfl⟩
        · rw [others j hji] at hj ⊢
          exact .inl ⟨hji, h.inQueue hs j hj⟩
      queueOnce := fun r => by
        rw [(regions r).1]
        split
        · exact ((h.queueOnce r).erase i).append (List.nodup_singleton i)
            (List.disjoint_singleton.mpr fun hi => ((h.queueOnce r).mem_erase_iff.mp hi).1 rfl)
        · simpa using (h.queueOnce r).erase i
      pointer := fun r => (regions r).2.1
      listOf := fun p j hj => by
        rw [(alike j).2.1, (alike j).2.2.2.1]
        exact h.listOf p j hj
      onList := fun j hj => by
        rw [(alike j).2.2.2.1]
        exact h.onList j ((alike j).2.1.mp hj)
      counted := fun j => (h.counted j).trans (outstanding_congr fun x => by
        obtain ⟨-, -, free, -, same, -, -⟩ := alike x
        rw [Ne, free, same]).symm
      sound := fun r => by
        obtain ⟨-, -, burst, state, training⟩ := regions r
        exact (h.sound r).of_eq state burst (congrArg Option.isSome training)
      owner := fun hs r b j hb flying ho => by
        rw [(regions r).2.2.1] at hb
        rw [others j fun e => unowned hs r b hb flying (e ▸ ho)]
        exact h.owner hs r b j hb flying ho
      pinsHeld := fun r hr => by
        rw [(regions r).2.2.1]
        exact h.pinsHeld r hr
      marked := fun j k => (h.marked j k).trans (exists_congr fun x => (steps x j k).symm)
      markedOnce := fun x y j k hx hy => h.markedOnce x y j k ((steps x j k).mp hx) ((steps y j k).mp hy) }

/-! ## Cursors and the Source Table -/

/-- A cursor that is not in flight is written (R126, R6). -/
theorem setCursor {j : SourceId} {k : Fin 2} {cu : Cursor} (idle : (s.cursor j k).inFlight = false)
    (clear : cu.inFlight = false) : Pool strict (s.setCursor j k cu) := by
  have marker := forall_setCursor (s := s) (i := j) (m := k) (c := cu)
    (p := fun j k c => c.inFlight = (s.cursor j k).inFlight ∧ (c.inFlight = true → c = s.cursor j k))
    ⟨clear.trans idle.symm, fun hm => by simp [clear] at hm⟩ fun _ _ _ => ⟨rfl, fun _ => rfl⟩
  exact
    { h with
      marked := fun j k => by rw [(marker j k).1]; exact h.marked j k
      markedSet := fun j k hm => by
        have same := (marker j k).2 hm
        rw [same] at hm ⊢
        exact h.markedSet j k hm }

/-- A cursor that is UNSET is not in flight. -/
theorem idle_of_not_both {j : SourceId} {k : Fin 2}
    (hn : ¬((s.cursor j k).isSet = true ∧ (s.cursor j k).inFlight = true)) : (s.cursor j k).inFlight = false := by
  by_contra hf
  have flying := Bool.not_eq_false _ ▸ hf
  exact hn ⟨h.markedSet j k flying, flying⟩

end Pool

theorem sourceWriteRefusal_eq_none {s : State} {hd : Hdr} {i : SourceId} {f : SourceFields}
    (h : s.sourceWriteRefusal hd i f = none) :
    1 ≤ f.limit ∧ f.limit ≤ 8 ∧ s.count i = 0 ∧ (s.cursor i 0).inFlight = false ∧ (s.cursor i 1).inFlight = false := by
  unfold State.sourceWriteRefusal at h
  split at h
  · cases h
  · rename_i range
    split at h
    · cases h
    · split at h
      · cases h
      · rename_i busy
        simp only [State.sourceBusy, Bool.or_eq_true, decide_eq_true_eq, not_or, Bool.not_eq_true] at busy
        obtain ⟨⟨count, first⟩, second⟩ := busy
        exact ⟨by omega, by omega, by omega, first, second⟩

theorem forall_setSource {s : State} {i : SourceId} {e : SourceEntry} {p : SourceId → SourceFields → Prop}
    (hi : p i e.fields) (h : ∀ j, j ≠ i → p j (s.source j)) (j : SourceId) : p j ((s.setSource i e).source j) := by
  by_cases hj : j = i
  · subst hj
    rwa [source_setSource]
  · rw [source_setSource_ne s e hj]
    exact h j hj

theorem Pool.storeSource {strict : Prop} {s : State} (h : Pool strict s) {hd : Hdr} {i : SourceId} {f : SourceFields}
    (taken : s.sourceWriteRefusal hd i f = none) : Pool strict (s.storeSource i f) := by
  obtain ⟨low, high, count, first, second⟩ := sourceWriteRefusal_eq_none taken
  have stored : Pool strict (s.setSource i { fields := f, parityOk := true }) :=
    { h with
      limited := forall_setSource (s := s) (e := { fields := f, parityOk := true })
        (p := fun j x => s.count j ≤ x.limit ∧ 1 ≤ x.limit ∧ x.limit ≤ 8)
        ⟨by rw [count]; exact Nat.zero_le _, low, high⟩ fun j _ => h.limited j }
  have cleared := (stored.setCursor (cu := .unset) first rfl).setCursor (j := i) (k := 1) (cu := .unset)
    (forall_setCursor (s := s) (p := fun j k c => j = i ∧ k = 1 → c.inFlight = false) (fun _ => rfl)
      (fun j k _ e => e.1 ▸ e.2 ▸ second) i 1 ⟨rfl, rfl⟩) rfl
  exact { cleared with }

end Sys2Proof.Machine

namespace Sys2Proof.Machine

/-! ## Verdicts -/

/-- An append that goes on keeps its request (R113). -/
theorem Context.appendStep_plan {c d : Context} (h : c.appendStep = .plan d) :
    ∃ step w, d = { c with step := step, result := Working.toResult w c.result, pieces := none } := by
  have goOn {step : AppendStep} {w : Working} (h : c.goOn step w = .plan d) :
      ∃ step w, d = { c with step := step, result := Working.toResult w c.result, pieces := none } :=
    ⟨step, w, (Verdict.plan.inj h).symm⟩
  have fit {limit : Nat} {w : Working} (h : c.fitDecision limit w = .plan d) :
      ∃ step w, d = { c with step := step, result := Working.toResult w c.result, pieces := none } := by
    unfold Context.fitDecision at h
    split at h
    · exact goOn h
    · split at h
      · cases h
      · split at h
        · cases h
        · split at h
          · exact goOn h
          · cases h
  unfold Context.appendStep at h
  dsimp only at h
  split at h
  case h_1 | h_3 =>
    split at h
    · exact goOn h
    · cases h
  case h_2 =>
    split at h
    · exact fit h
    · cases h
  case h_4 | h_6 => exact goOn h
  case h_5 => exact fit h
  case h_7 => cases h

theorem Context.restartStep_plan {c d : Context} (h : c.restartStep = .plan d) :
    c.step = .freshWrite ∧ d = { c with step := .anchorWrite, pieces := none } := by
  unfold Context.restartStep at h
  split at h
  · exact ⟨‹_›, (Verdict.plan.inj h).symm⟩
  · cases h

theorem Context.swapStep_plan {c d : Context} (h : c.swapStep = .plan d) :
    c.progress = 1 ∧ c.result.getD 0 0 = c.payload.getD 0 0 ∧ d = { c with pieces := none } := by
  unfold Context.swapStep at h
  dsimp only at h
  split at h
  · cases h
  · rename_i progress
    split at h
    · exact ⟨not_not.mp progress, ‹_›, (Verdict.plan.inj h).symm⟩
    · cases h

theorem Context.place_frame (c : Context) (ws : List (Nat × Word)) :
    c.place ws = { c with scratch := (c.place ws).scratch, result := (c.place ws).result } := by
  unfold Context.place
  split <;> rfl

/-! ## Completions -/

namespace Pool

variable {strict : Prop} {s : State} (h : Pool strict s)
include h

theorem raise (f : AlertFlag) : Pool strict (s.raise f) := { h with }

theorem settle {i : CtxId} {v : Verdict} (queued : (s.ctx i).queued) (unowned : strict → s.Unowned i)
    (alike : ∀ d, v = .plan d → (s.ctx i).Alike d) : Pool strict (s.settle i v) := by
  cases v with
  | plan d => exact h.setCtx (alike d rfl)
  | ends st ws => exact h.endCtx queued unowned st ws

/-- A cursor step completes: the cursor is stepped and its context ends (R130). -/
theorem cursorCompletion {i : CtxId} (queued : (s.ctx i).queued) (unowned : strict → s.Unowned i)
    (cursor : (s.ctx i).kind.isCursor = true) : Pool strict (s.cursorCompletion i) := by
  let u := s.setCursor (s.ctx i).source (s.ctx i).cursor
    ((s.cursor (s.ctx i).source (s.ctx i).cursor).stepped (s.ctx i))
  have notDone : (s.ctx i).state ≠ .done := by
    obtain hq | hq := queued <;> simp [hq]
  have a (st : Status) (ws : List Word) : Ends s (u.concluded i st ws) i :=
    (ends_concluded (s := u) (fun r hr hi => hr (h.queueOf r i hi).2.symm) queued st ws).of_setCursor
      ⟨queued, cursor, rfl, rfl⟩
  have ended (st : Status) (ws : List Word) : Pool strict (u.endCtx i st ws) := by
    have concluded := h.ends (a st ws) queued unowned
    rw [endCtx_concluded (s := u) st ws (h.not_mem_delivery notDone)]
    split
    · exact concluded
    · refine concluded.delivered ?_
      rw [(a st ws).delivery]
      exact (if_pos rfl).symm ▸ List.mem_append_right _ List.mem_cons_self
  exact ended _ _

theorem linkCompletion {i : CtxId} (queued : (s.ctx i).queued) (unowned : strict → s.Unowned i) :
    Pool strict (s.linkCompletion i) := by
  unfold State.linkCompletion
  dsimp only
  split
  · exact h.endCtx queued unowned _ _
  · split
    · exact h.faultAt _ _
    · split
      · exact h.endCtx queued unowned _ _
      · split
        · exact h.endCtx queued unowned _ _
        · exact h.moveToTarget queued unowned _ _ _

theorem accessEnd {i : CtxId} (queued : (s.ctx i).queued) (unowned : strict → s.Unowned i) :
    Pool strict (s.accessEnd i) := by
  unfold State.accessEnd
  dsimp only
  split
  case h_1 => exact h.linkCompletion queued unowned
  case h_2 | h_3 => exact h.endCtx queued unowned _ _
  case h_4 =>
    refine h.settle queued unowned fun d hd => ?_
    obtain ⟨-, -, rfl⟩ := Context.swapStep_plan hd
    exact ⟨.inl rfl, rfl, rfl, rfl, rfl, rfl⟩
  case h_5 =>
    refine h.settle queued unowned fun d hd => ?_
    obtain ⟨step, w, rfl⟩ := Context.appendStep_plan hd
    exact ⟨.inl rfl, rfl, rfl, rfl, rfl, rfl⟩
  case h_6 =>
    refine h.settle queued unowned fun d hd => ?_
    obtain ⟨-, rfl⟩ := Context.restartStep_plan hd
    exact ⟨.inl rfl, rfl, rfl, rfl, rfl, rfl⟩
  case h_7 kind | h_8 kind => exact h.cursorCompletion queued unowned (by rw [kind]; rfl)

/-- A burst of a context completes in a region where nothing else is in flight (R64). -/
theorem contextCompletion {i : CtxId} (queued : (s.ctx i).queued)
    (quiet : strict → (s.region (s.ctx i).region).inFlight = false) (b : Burst) (ws : List (Nat × Word)) :
    Pool strict (s.contextCompletion i b ws) := by
  have alike : (s.ctx i).Alike { (s.ctx i).place ws with progress := (s.ctx i).progress + b.len, parityOk := true } := by
    rw [Context.place_frame]
    exact ⟨.inl rfl, rfl, rfl, rfl, rfl, rfl⟩
  have advanced : Pool strict (s.advance i b ws) := h.setCtx alike
  have placed : (s.advance i b ws).ctx i = _ := ctx_setCtx _ i _
  unfold State.contextCompletion
  dsimp only
  split
  · refine advanced.accessEnd (placed ▸ alike.queued.mpr queued) fun hs => advanced.unowned_of_quiet (fun hs => ?_) hs
    rw [placed]
    exact alike.region ▸ quiet hs
  · exact advanced

theorem patrolCompletion (r : RegionId) (words : List Word) : Pool strict (s.patrolCompletion r words) := by
  unfold State.patrolCompletion
  dsimp only
  split
  · split
    · have done : Pool strict (s.setRegion r { s.region r with due := false, patrolRead := none }) :=
        h.setRegister rfl rfl rfl rfl rfl
      unfold State.comparePatrol
      split
      · exact done
      · split
        · exact done.takeFault _
        · exact done.raise _
    · exact h.setRegister rfl rfl rfl rfl rfl
  · exact h

omit h

theorem inFlight_burstMoved (s : State) (r : RegionId) (b : Burst) (taken : Nat → Bool) :
    ((s.burstMoved r b taken).region r).inFlight = false := by
  change ((s.setRegion r (s.region r).endBurst).region r).inFlight = false
  rw [region_setRegion, Region.endBurst, Region.admitPatrol_of_quiet rfl]
  rfl

theorem timeOut {r : RegionId} {b : Burst} (h : Pool strict s)
    (owner : ∀ i, b.owner = .ctx i → (s.ctx i).queued ∧ (s.ctx i).region = r) (moved : Nat) :
    Pool strict (s.timeOut r b moved) := by
  have left : Pool strict { s.burstMoved r b (s.timeoutTaken moved) with freeCount := s.freeCount + 1 } :=
    { h.burstMoved r b (s.timeoutTaken moved) with }
  have quiet := inFlight_burstMoved s r b (s.timeoutTaken moved)
  unfold State.timeOut
  dsimp only
  split
  · rename_i i ho
    obtain ⟨queued, region⟩ := owner i ho
    have ended := left.endCtx (i := i) queued (fun hs => left.unowned_of_quiet (fun _ => region ▸ quiet) hs)
      .deviceTimeout []
    exact (ended.enterOffline (r := r) fun _ => (inFlight_endCtx ..).trans quiet).raise _
  · exact (left.enterOffline (r := r) fun _ => quiet).raise _

end Pool

end Sys2Proof.Machine

namespace Sys2Proof.Machine

namespace Pool

variable {strict : Prop} {s t : State} {r : RegionId} (h : Pool strict s)
include h

/-! ## Timing groups and pending actions -/

theorem applyTiming (quiet : strict → (s.region r).inFlight = false) (state : (s.region r).state ≠ .training)
    (g : TimingGroup) : Pool strict (s.applyTiming r g) := by
  have settled : Pool strict
      (s.setRegion r ({ (s.region r).dropPatrol with timing := g, timingOk := true }.settleFor 2)) :=
    h.setState quiet rfl rfl rfl (h.training_eq_none state)
  exact settled.raise _

theorem carryOut (r : RegionId) : Pool strict (s.carryOut r) := by
  unfold State.carryOut
  dsimp only
  split
  · rename_i ready
    obtain ⟨quiescing, burst⟩ := ready
    have quiet (_ : strict) : (s.region r).inFlight = false := by simp [Region.inFlight, burst]
    have state : (s.region r).state ≠ .training := by simp [quiescing]
    split
    · exact h.applyTiming quiet state _
    · exact h.setState quiet rfl rfl rfl (h.training_eq_none state)
    · exact h.enterOffline quiet
    · exact h
  · exact h

/-- Entry into QUIESCING, which a burst in flight may outlast (R96). -/
theorem setQuiescing {g : Region} (online : (s.region r).state = .online) (queue : g.queue = (s.region r).queue)
    (turn : g.turn = (s.region r).turn) (burst : g.burst = (s.region r).burst) (state : g.state = .quiescing)
    (training : g.training = (s.region r).training) : Pool strict (s.setRegion r g) := by
  refine h.setRegion (.of_eq queue turn burst) ⟨fun _ _ => .inr state, fun hs ht => ?_⟩
  have none := h.training_eq_none (r := r) (by simp [online]) hs
  simp [training, none] at ht

theorem retime (online : (s.region r).state = .online) (g : TimingGroup) : Pool strict (s.retime r g) := by
  have named : Pool strict (s.setRegion r (s.region r).unnameTiming) := h.setRegister rfl rfl rfl rfl rfl
  unfold State.retime
  dsimp only
  split
  · exact h.setQuiescing online rfl rfl rfl rfl rfl
  · rename_i quiet
    refine named.applyTiming (fun _ => ?_) ?_ g
    · rw [region_setRegion]
      exact Bool.not_eq_true _ ▸ quiet
    · rw [region_setRegion]
      exact (fun e => by simp [online] at e : (s.region r).state ≠ .training)

theorem storePatrol (g : PatrolGroup) : Pool strict (s.setRegion r ((s.region r).storePatrol g)) := by
  unfold Region.storePatrol Region.admitPatrol
  dsimp only
  split <;> exact h.setRegister rfl rfl rfl rfl rfl

/-! ## Region commands -/

theorem online (ht : s.online r = .ok t) : Pool strict t := by
  unfold State.online at ht
  dsimp only at ht
  split at ht
  · rename_i offline
    split at ht
    · exact Except.ok.inj ht ▸ h.setState (h.quiet_of_state (by simp [offline]) (by simp [offline])) rfl rfl rfl
        (h.training_eq_none (r := r) (by simp [offline]))
    · cases ht
  · cases ht

omit h in
theorem burst_takeInputs (s : State) (q x : RegionId) :
    ((s.takeInputs q).region x).burst = (s.region x).burst :=
  forall_setRegion (s := s) (r := q) (g := { s.region q with training := (s.region q).training.map Training.probe })
    (p := fun x k => k.burst = (s.region x).burst) rfl (fun _ => rfl) x

omit h in
theorem burst_leaveInputs (s : State) (q x : RegionId) :
    ((s.leaveInputs q).region x).burst = (s.region x).burst := by
  unfold State.leaveInputs State.releaseInputs
  split
  · split
    · rfl
    · exact burst_takeInputs _ _ x
  · rfl

theorem takeInputs (q : RegionId) : Pool strict (s.takeInputs q) := by
  have taken : Pool strict (s.setRegion q { s.region q with training := (s.region q).training.map Training.probe }) :=
    h.setRegister rfl rfl rfl rfl (by simp)
  exact { taken with }

theorem releaseInputs : Pool strict s.releaseInputs := by
  unfold State.releaseInputs
  split
  · exact { h with }
  · rename_i q rest _
    exact Pool.takeInputs (s := { s with holder := none, waiting := rest }) { h with } q

theorem leaveInputs (q : RegionId) : Pool strict (s.leaveInputs q) := by
  unfold State.leaveInputs
  split
  · exact h.releaseInputs
  · exact { h with }

theorem becomeReady (q : RegionId) : Pool strict (s.becomeReady q) := by
  unfold State.becomeReady
  split
  · exact h.takeInputs q
  · exact { h with }

theorem abortTraining (quiet : strict → (s.region r).inFlight = false) : Pool strict (s.abortTraining r) := by
  have stopped : Pool strict (s.setRegion r { (s.region r).untrain with training := none }) :=
    h.setState quiet rfl rfl rfl fun _ => rfl
  refine (stopped.leaveInputs r).enterOffline fun hs => ?_
  have burst := burst_leaveInputs (s.setRegion r { (s.region r).untrain with training := none }) r r
  rw [region_setRegion] at burst
  rw [Region.inFlight, burst]
  exact quiet hs

theorem offline (ht : s.offline r = .ok t) : Pool strict t := by
  have quiet (online : (s.region r).state ≠ .online) (quiescing : (s.region r).state ≠ .quiescing) :=
    h.quiet_of_state online quiescing
  unfold State.offline at ht
  dsimp only at ht
  split at ht
  case h_1 state => exact Except.ok.inj ht ▸ h.abortTraining (quiet (by simp [state]) (by simp [state]))
  case h_2 state | h_3 state => exact Except.ok.inj ht ▸ h.enterOffline (quiet (by simp [state]) (by simp [state]))
  case h_4 online =>
    obtain rfl := Except.ok.inj ht
    split
    · exact h.setQuiescing online rfl rfl rfl rfl rfl
    · rename_i flying
      exact h.enterOffline fun _ => Bool.not_eq_true _ ▸ flying
  case h_5 => exact Except.ok.inj ht ▸ h.setRegister rfl rfl rfl rfl rfl
  case h_6 | h_7 => cases ht

theorem parkRegion (ht : s.parkRegion r = .ok t) : Pool strict t := by
  unfold State.parkRegion at ht
  dsimp only at ht
  split at ht
  · rename_i online
    obtain rfl := Except.ok.inj ht
    split
    · exact h.setQuiescing online rfl rfl rfl rfl rfl
    · rename_i flying
      exact h.setState (fun _ => Bool.not_eq_true _ ▸ flying) rfl rfl rfl
        (h.training_eq_none (r := r) (by simp [online]))
  all_goals cases ht

theorem unpark (ht : s.unpark r = .ok t) : Pool strict t := by
  unfold State.unpark at ht
  dsimp only at ht
  split at ht
  · rename_i parked
    have quiet := h.quiet_of_state (r := r) (by simp [parked]) (by simp [parked])
    obtain rfl := Except.ok.inj ht
    split
    · exact h.setState quiet rfl rfl rfl (h.training_eq_none (r := r) (by simp [parked]))
    · exact (h.enterOffline quiet).raise _
  · cases ht

theorem train (ht : s.train r = .ok t) : Pool strict t := by
  unfold State.train at ht
  dsimp only at ht
  split at ht
  · split at ht
    · cases ht
    · split at ht
      · cases ht
      · rename_i burst
        obtain rfl := Except.ok.inj ht
        have burst : (s.region r).burst = none := by simpa using burst
        have begun : Pool strict (s.setRegion r (s.region r).beginTraining) :=
          h.setRegion (.of_eq rfl rfl rfl)
            ⟨fun _ hf => by simp [Region.inFlight, Region.beginTraining, Region.untrain, burst] at hf, fun _ _ => rfl⟩
        exact begun.becomeReady r
  · cases ht

/-! ## Trainings -/

theorem endTraining (quiet : strict → (s.region r).inFlight = false) {g : Region} (queue : g.queue = (s.region r).queue)
    (turn : g.turn = (s.region r).turn) (burst : g.burst = (s.region r).burst) (f : AlertFlag) :
    Pool strict (s.endTraining r g f) := by
  have stopped : Pool strict (s.setRegion r { g with training := none }) :=
    h.setState quiet queue turn burst fun _ => rfl
  have off : Pool strict ((s.setRegion r { g with training := none }).enterOffline r) := stopped.enterOffline fun hs => by
    rw [region_setRegion, Region.inFlight, burst]
    exact quiet hs
  exact (off.raise f).releaseInputs

theorem quiet_of_training {u : Training} (ht : (s.region r).training = some u) (hs : strict) :
    (s.region r).inFlight = false := by
  have state := (h.sound r).training hs (by simp [ht])
  exact h.quiet_of_state (by simp [state]) (by simp [state]) hs

theorem failTraining {u : Training} (ht : (s.region r).training = some u) : Pool strict (s.failTraining r) :=
  h.endTraining (g := (s.region r).untrain) (h.quiet_of_training ht) rfl rfl rfl _

theorem recordSample {u : Training} (ht : (s.region r).training = some u) (v : Training) :
    Pool strict (s.recordSample r v) := by
  have recorded (v : Training) : Pool strict (s.setRegion r { s.region r with training := some v }) :=
    h.setRegister rfl rfl rfl rfl (by simp [ht])
  unfold State.recordSample State.stepOutcome
  split
  · split
    · rename_i steps _
      exact h.endTraining (g := { s.region r with trained := true, delays := steps }) (h.quiet_of_training ht) rfl rfl rfl _
    · split
      · exact h.failTraining ht
      · exact (recorded v.advance).releaseInputs.becomeReady r
  · exact recorded v

end Pool

/-! ## Resets and the end of containment -/

/-- An empty pool: every context FREE, the queues and lists empty, nothing in flight. -/
structure State.Empty (s : State) : Prop where
  ctxs : ∀ i, s.ctx i = .free
  queues : ∀ r, (s.region r).queue = [] ∧ (s.region r).turn = 0
  lists : ∀ p, (s.port p).delivery = []
  counts : ∀ j, s.count j = 0
  limits : ∀ j, 1 ≤ (s.source j).limit ∧ (s.source j).limit ≤ 8
  quiet : ∀ r, (s.region r).inFlight = false
  pins : ∀ r, s.pins = some r → (s.region r).burst.isSome = true
  cursors : ∀ j k, (s.cursor j k).inFlight = false

theorem State.Empty.pool {strict : Prop} {s : State} (e : s.Empty)
    (training : strict → ∀ r, (s.region r).training.isSome = true → (s.region r).state = .training) : Pool strict s := by
  have state (i : CtxId) : (s.ctx i).state = .free := congrArg Context.state (e.ctxs i)
  have steps (i : CtxId) (j : SourceId) (k : Fin 2) : ¬(s.ctx i).steps j k := not_steps_of_free (state i) j k
  exact
    { queueOf := fun r i hi => by simp [(e.queues r).1] at hi
      inQueue := fun _ i hi => by simp [Context.queued, state] at hi
      queueOnce := fun r => by simp [(e.queues r).1]
      pointer := fun r => by simp [(e.queues r).2]
      listOf := fun p i hi => by simp [e.lists p] at hi
      onList := fun i hi => by simp [state] at hi
      listOnce := fun p => by simp [e.lists p]
      counted := fun j => by simp [e.counts, State.outstanding, state]
      limited := fun j => ⟨by simp [e.counts], e.limits j⟩
      sound := fun r => ⟨fun _ hf => by simp [e.quiet r] at hf, fun hs => training hs r⟩
      owner := fun _ r b i hb flying => by
        have quiet := e.quiet r
        simp [Region.inFlight, hb, flying] at quiet
      pinsHeld := e.pins
      marked := fun j k => iff_of_false (by simp [e.cursors]) fun ⟨i, hi⟩ => steps i j k hi
      markedOnce := fun i _ j k hi => absurd hi (steps i j k)
      markedSet := fun j k hm => by simp [e.cursors] at hm }

theorem Region.freed_eq (g : Region) :
    g.freed =
      { g with
        due := false, patrolRead := none, queue := [], turn := 0, burst := g.burst.map Burst.abandon,
        patrol := g.written.getD g.patrol, written := none } := by
  rw [Region.freed, Region.abandonBurst_eq]
  rfl

theorem Pool.softReset {strict : Prop} {s : State} (h : Pool strict s) : Pool strict s.softReset := by
  have region (r : RegionId) : s.softReset.region r = (s.region r).freed := region_map s Region.freed r
  refine State.Empty.pool ⟨fun i => ?_, fun r => ?_, fun p => ?_, fun j => ?_, fun j => (h.limited j).2, fun r => ?_,
    fun r hr => ?_, fun j k => ?_⟩ fun hs r => ?_
  · simp [State.ctx, State.softReset]
  · rw [region, Region.freed_eq]
    exact ⟨rfl, rfl⟩
  · cases p <;> rfl
  · simp [State.count, State.softReset]
  · rw [region, Region.freed_eq]
    exact quiet_of_abandoned rfl
  · rw [region, Region.freed_eq]
    simpa using h.pinsHeld r hr
  · simp [State.cursor, State.softReset, Cursor.unset]
  · rw [region, Region.freed_eq]
    exact (h.sound r).training hs

theorem Region.leaveHalted_frame (g : Region) :
    (g.leaveHalted.queue = g.queue ∧ g.leaveHalted.turn = g.turn ∨ g.leaveHalted.queue = [] ∧ g.leaveHalted.turn = 0) ∧
      g.leaveHalted.burst = g.burst ∧ (g.leaveHalted.training = g.training ∨ g.leaveHalted.training = none) := by
  unfold Region.leaveHalted
  dsimp only
  split
  case h_3 | h_4 | h_5 =>
    split
    · exact ⟨.inl ⟨rfl, rfl⟩, rfl, .inl rfl⟩
    · exact ⟨.inr ⟨rfl, rfl⟩, rfl, .inr rfl⟩
  case h_1 | h_2 => exact ⟨.inl ⟨rfl, rfl⟩, rfl, .inl rfl⟩
  case h_6 => exact ⟨.inr ⟨rfl, rfl⟩, rfl, .inr rfl⟩

theorem Pool.clearContainment {strict : Prop} {s : State} (h : Pool strict s) (contained : s.mode = .contained)
    (inv : strict → ContainmentInv s) : Pool strict s.clearContainment := by
  have region (r : RegionId) : s.clearContainment.region r = (s.region r).leaveHalted := region_map s Region.leaveHalted r
  have frame (r : RegionId) := region r ▸ (s.region r).leaveHalted_frame
  have queue (r : RegionId) : (s.clearContainment.region r).queue = (s.region r).queue ∨
      (s.clearContainment.region r).queue = [] := (frame r).1.imp And.left And.left
  exact
    { h with
      queueOf := fun r i hi => by
        obtain hq | hq := queue r <;> rw [hq] at hi
        · exact h.queueOf r i hi
        · cases hi
      inQueue := fun hs i hi => by
        obtain hf | hf := (inv hs).finished contained i <;> obtain hq | hq := hi <;> cases hf.symm.trans hq
      queueOnce := fun r => by
        obtain hq | hq := queue r <;> rw [hq]
        · exact h.queueOnce r
        · exact List.nodup_nil
      pointer := fun r => by
        obtain ⟨hq, ht⟩ | ⟨hq, ht⟩ := (frame r).1
        · exact hq ▸ ht ▸ h.pointer r
        · exact ht ▸ Nat.zero_le _
      sound := fun r => by
        obtain ⟨-, burst, training⟩ := frame r
        refine Region.Sound.of_idle (fun hs => (inv hs).quiet contained r) burst fun hs => ?_
        have halted := ((inv hs).halted r).mpr contained
        have none := h.training_eq_none (r := r) (by simp [halted]) hs
        exact training.elim (·.trans none) id
      owner := fun hs r b i hb => h.owner hs r b i ((frame r).2.1 ▸ hb)
      pinsHeld := fun r hr => (frame r).2.1 ▸ h.pinsHeld r hr }

end Sys2Proof.Machine

namespace Sys2Proof.Machine

/-! ## The device reset -/

theorem reset_empty : State.reset.Empty := by
  have region (r : RegionId) : State.reset.region r = .reset := by simp [State.region, State.reset]
  refine ⟨fun i => by simp [State.ctx, State.reset], fun r => ?_, fun p => by cases p <;> rfl,
    fun j => by simp [State.count, State.reset], fun j => ?_, fun r => ?_, nofun, fun j k => ?_⟩
  · rw [region]
    exact ⟨rfl, rfl⟩
  · have entry : State.reset.source j = bootEntry.fields ∨ State.reset.source j = emptyEntry.fields := by
      by_cases hj : j = 0
      · subst hj
        exact .inl rfl
      · refine .inr ?_
        have ne : (0 : Nat) ≠ j.val := fun e => hj (Fin.ext e.symm)
        simp [State.source, State.reset, ne]
    obtain e | e := entry <;> rw [e] <;> decide
  · rw [region]
    rfl
  · simp [State.cursor, State.reset, Cursor.unset]

theorem poolInv_reset : PoolInv State.reset := by
  have region (r : RegionId) : State.reset.region r = .reset := by simp [State.region, State.reset]
  have pool : Pool True State.reset := reset_empty.pool fun _ r ht => by simp [region, Region.reset] at ht
  exact
    { pool with
      inQueue := pool.inQueue trivial
      flight := fun r => (pool.sound r).flight trivial
      owner := pool.owner trivial
      training := fun r => (pool.sound r).training trivial
      pinsFree := fun _ r => by rw [region]; rfl }

theorem poolInv_deviceReset {s t : State} (ht : exec .deviceReset s = .next t) : PoolInv t := by
  obtain rfl := Host.Outcome.next.inj ht
  exact
    { poolInv_reset with
      listOf := fun p i hi => by cases p <;> cases hi
      onList := fun i hi => by
        have free := congrArg Context.state (reset_empty.ctxs i)
        cases free.symm.trans hi
      listOnce := fun p => by cases p <;> exact List.nodup_nil }

/-! ## The invariant -/

/-- `InvariantRules` for the pool; where `strict`, along with containment. -/
theorem poolRules (strict : Prop) :
    InvariantRules (fun s => (strict → ContainmentInv s) ∧ PoolInv s) (fun s => (strict → ContainmentInv s) ∧ Pool strict s)
      (fun s => strict → PoolInv s) where
  begins s h := ⟨h.1, h.2.pool strict⟩
  idle s h _ := h.2
  ends s h hs := by
    have pool : Pool True s := by
      have := h.2
      rwa [eq_true hs] at this
    exact pool.grantPins
  deviceReset s t _ ht _ := poolInv_deviceReset ht
  registers s ptr checks inject alerts raised mask interval h :=
    ⟨fun hs => containmentRules.registers s ptr checks inject alerts raised mask interval (h.1 hs), { h.2 with }⟩
  port s p v hv h := ⟨fun hs => containmentRules.port s p v hv (h.1 hs), h.2.setPort hv⟩
  deliver s p i rest hl h := ⟨fun hs => containmentRules.deliver s p i rest hl (h.1 hs), h.2.deliver hl⟩
  takeFault s f h := ⟨fun hs => (h.1 hs).takeFault f, h.2.takeFault f⟩
  issueCtx s r k i online free turn h :=
    ⟨fun hs => containmentRules.issueCtx s r k i online free turn (h.1 hs), h.2.issueCtx online turn⟩
  issuePatrol s r pc rest online free open' h :=
    ⟨fun hs => containmentRules.issuePatrol s r pc rest online free open' (h.1 hs), h.2.issuePatrol pc _ online⟩
  carryOut s r h := ⟨fun hs => (h.1 hs).carryOut r, h.2.carryOut r⟩
  allocate s i c run admitted region room free h :=
    ⟨fun hs => containmentRules.allocate s i c run admitted region room free (h.1 hs),
      h.2.allocate admitted.fresh room (free_of_freeCtx free)⟩
  cursorSet s j k cu idle isSet clear h :=
    ⟨fun hs => containmentRules.cursorSet s j k cu idle isSet clear (h.1 hs), h.2.setCursor (h.2.idle_of_not_both idle) clear⟩
  storeSource s hd i f taken h :=
    ⟨fun hs => containmentRules.storeSource s hd i f taken (h.1 hs), h.2.storeSource taken⟩
  storeSegment s i d valid h := ⟨fun hs => containmentRules.storeSegment s i d valid (h.1 hs), { h.2 with }⟩
  storeClock s r g applies h :=
    ⟨fun hs => containmentRules.storeClock s r g applies (h.1 hs), h.2.setRegister rfl rfl rfl rfl rfl⟩
  storeTiming s r g applies h :=
    ⟨fun hs => containmentRules.storeTiming s r g applies (h.1 hs), h.2.setRegister rfl rfl rfl rfl rfl⟩
  retime s r g online h := ⟨fun hs => containmentRules.retime s r g online (h.1 hs), h.2.retime online g⟩
  storePatrol s r g valid h := ⟨fun hs => containmentRules.storePatrol s r g valid (h.1 hs), h.2.storePatrol g⟩
  online s r t live ht h := ⟨fun hs => containmentRules.online s r t live ht (h.1 hs), h.2.online ht⟩
  offline s r t live ht h := ⟨fun hs => containmentRules.offline s r t live ht (h.1 hs), h.2.offline ht⟩
  parkRegion s r t live ht h := ⟨fun hs => containmentRules.parkRegion s r t live ht (h.1 hs), h.2.parkRegion ht⟩
  unpark s r t live ht h := ⟨fun hs => containmentRules.unpark s r t live ht (h.1 hs), h.2.unpark ht⟩
  train s r t live ht h := ⟨fun hs => containmentRules.train s r t live ht (h.1 hs), h.2.train ht⟩
  start s config h := ⟨fun hs => (h.1 hs).start config, { h.2 with }⟩
  softReset s live h := ⟨fun hs => (h.1 hs).softReset live, h.2.softReset⟩
  clearContainment s contained clean h :=
    ⟨fun hs => (h.1 hs).clearContainment contained clean, h.2.clearContainment contained h.1⟩
  burstMoved s r b taken hb pins h :=
    ⟨fun hs => containmentRules.burstMoved s r b taken hb pins (h.1 hs), (h.2.pool strict).burstMoved r b taken⟩
  contextCompletion s r b i taken ws hb flying owner pins h := by
    obtain ⟨serving, region⟩ := h.2.owner r b i hb flying owner
    refine ⟨fun hs => containmentRules.contextCompletion s r b i taken ws hb flying owner pins (h.1 hs),
      ((h.2.pool strict).burstMoved r b taken).contextCompletion (.inr serving) (fun _ => ?_) b ws⟩
    exact region ▸ Pool.inFlight_burstMoved s r b taken
  patrolCompletion s r b taken words hb flying pins h :=
    ⟨fun hs => containmentRules.patrolCompletion s r b taken words hb flying pins (h.1 hs),
      ((h.2.pool strict).burstMoved r b taken).patrolCompletion r words⟩
  timeOut s r b moved hb flying pins state h :=
    ⟨fun hs => containmentRules.timeOut s r b moved hb flying pins state (h.1 hs),
      (h.2.pool strict).timeOut (fun i owner => (h.2.owner r b i hb flying owner).imp_left .inr) moved⟩
  settleExpiry s r settling h :=
    ⟨fun hs => containmentRules.settleExpiry s r settling (h.1 hs),
      h.2.setState (h.2.quiet_of_state (by simp [settling]) (by simp [settling])) rfl rfl rfl
        (h.2.training_eq_none (r := r) (by simp [settling]))⟩
  markDue s r h := ⟨fun hs => containmentRules.markDue s r (h.1 hs), h.2.setRegister rfl rfl rfl rfl rfl⟩
  recordSample s r t u holder training h :=
    ⟨fun hs => containmentRules.recordSample s r t u holder training (h.1 hs),
      (h.2.pool strict).recordSample training u⟩
  failTraining s r t holder training h :=
    ⟨fun hs => containmentRules.failTraining s r t holder training (h.1 hs), (h.2.pool strict).failTraining training⟩

/-- Settles O56: every step is made of steps that keep the pool. -/
theorem poolKept : Obligations.PoolKept := by
  intro s t contained h ht
  refine (step_keeps (P := fun s => ContainmentInv s ∧ PoolInv s) (fun _ _ h => ⟨{ h.1 with }, { h.2 with }⟩)
    (fun c u v h ht => ?_) ⟨contained, h⟩ ht).2
  exact ⟨containmentRules.exec h.1 ht, (poolRules True).exec ⟨fun _ => h.1, h.2⟩ ht trivial⟩

end Sys2Proof.Machine

/-!
Word ranges (R9, R17, R46, R61, R79, R113, R114, R120): a context stays in its word range from its admission over every burst it
is cut into, and the sequence of an append never leaves its segment.
-/

namespace Sys2Proof.Machine

/-! ## Cuts -/

theorem within_of_mem_cutFuel {fuel b a n : Nat} {pc : Piece} (h : pc ∈ cutFuel fuel b a n) : pc.within a (a + n) := by
  induction fuel generalizing a n with
  | zero => cases h
  | succ fuel ih =>
    cases n with
    | zero => cases h
    | succ n =>
      have short : min (b - a % b) (n + 1) ≤ n + 1 := min_le_right ..
      obtain rfl | h := List.mem_cons.mp h
      · exact ⟨rfl, le_refl a, Nat.add_le_add_left short a⟩
      · obtain ⟨linear, low, high⟩ := ih h
        exact ⟨linear, by omega, by omega⟩

theorem within_of_mem_cut {b a n : Nat} {pc : Piece} (h : pc ∈ cut b a n) : pc.within a (a + n) := within_of_mem_cutFuel h

theorem Piece.within.mono {pc : Piece} {a b x y : Nat} (h : pc.within a b) (low : x ≤ a) (high : b ≤ y) : pc.within x y :=
  ⟨h.1, low.trans h.2.1, h.2.2.trans high⟩

theorem mem_wrapPlan {cl : ClockGroup} {tm : TimingGroup} {w : Wrap} {a : Nat} {pc : Piece} (low : w.base ≤ a)
    (high : a < w.base + w.block) (h : pc ∈ wrapPlan cl tm w a) :
    pc.within w.base (w.base + w.block) ∨ pc = { addr := a, len := w.block, wrap := true } := by
  unfold wrapPlan at h
  split at h
  · split at h
    · exact .inr (List.mem_singleton.mp h)
    · left
      obtain h | h := List.mem_append.mp h
      · exact (within_of_mem_cut h).mono low (by omega)
      · exact (within_of_mem_cut h).mono le_rfl (by omega)
  · exact .inl (within_of_mem_cut h)

/-- Every burst of a fresh cut lies in the context's word range. -/
theorem Context.InRange.plan {c : Context} (h : c.InRange) {cl : ClockGroup} {tm : TimingGroup} {pc : Piece}
    (hp : pc ∈ c.plan cl tm) : c.covers pc := by
  unfold Context.plan at hp
  split at hp
  · rename_i w stage kind wrap
    obtain ⟨pos, first, last, base, high⟩ := h.block w stage kind wrap
    have low : w.base ≤ c.addr := base ▸ Nat.sub_le ..
    obtain hw | rfl := mem_wrapPlan low (last ▸ high) hp
    · exact .inl (by rwa [first, last])
    · exact .inr ⟨w, stage, kind, wrap, rfl⟩
  · rename_i other
    obtain ⟨low, high⟩ := h.linear fun ⟨stage, kind, wrap⟩ => by
      obtain ⟨w, hw⟩ := Option.isSome_iff_exists.mp wrap
      exact other w stage kind hw
    exact .inl ((within_of_mem_cut hp).mono low high)

/-! ## Bursts -/

/-- A burst in its region; a write burst is linear and carries a datum for each of its words. -/
def Burst.Sound (b : Burst) : Prop := b.inRange = true ∧ (b.write = true → b.wrap = false ∧ b.data.length = b.len)

theorem inRange_iff (b : Burst) :
    b.inRange = true ↔ ∀ i < b.len,
      (if b.wrap then b.addr - b.addr % b.len + (b.addr % b.len + i) % b.len else b.addr + i) < Config.regionWords := by
  simp [Burst.inRange, Burst.addrs]

theorem inRange_of_within {b : Burst} {pc : Piece} {first last : Nat} (addr : b.addr = pc.addr) (len : b.len = pc.len)
    (wrap : b.wrap = pc.wrap) (h : pc.within first last) (hl : last ≤ Config.regionWords) : b.inRange = true := by
  obtain ⟨linear, -, high⟩ := h
  rw [inRange_iff, addr, len, wrap, linear]
  intro i hi
  simp only [Bool.false_eq_true, if_false]
  omega

/-- A burst of a context's cut lies in its region. -/
theorem Context.InRange.inRange {c : Context} (h : c.InRange) {pc : Piece} (hp : c.covers pc) {b : Burst}
    (addr : b.addr = pc.addr) (len : b.len = pc.len) (wrap : b.wrap = pc.wrap) : b.inRange = true := by
  obtain hw | ⟨w, stage, kind, hw, rfl⟩ := hp
  · exact inRange_of_within addr len wrap hw h.range.2
  · obtain ⟨pos, first, last, base, -⟩ := h.block w stage kind hw
    rw [inRange_iff, addr, len, wrap]
    intro i _
    have hm : (c.addr % w.block + i) % w.block < w.block := Nat.mod_lt _ pos
    have top := h.range.2
    simp only [if_true, ← base]
    omega

theorem Context.InRange.linear_of_write {c : Context} (write : c.access.write = true) {pc : Piece} (hp : c.covers pc) :
    pc.wrap = false := by
  obtain hw | ⟨w, stage, kind, -, -⟩ := hp
  · exact hw.1
  · simp [Context.access, stage, kind] at write

/-! ## Records that differ in what their words do not depend on -/

/-- Two records with the same word range, access and cut. -/
theorem Context.InRange.congr {c d : Context} (h : c.InRange) (stage : d.stage = c.stage) (kind : d.kind = c.kind)
    (addr : d.addr = c.addr) (first : d.first = c.first) (last : d.last = c.last) (wrap : d.wrap = c.wrap)
    (access : d.access.addr = c.access.addr ∧ d.access.len = c.access.len)
    (pieces : ∀ l, d.pieces = some l → ∀ pc ∈ l, c.covers pc)
    (journal : d.kind = .append → d.step = c.step ∧ d.result = c.result) : d.InRange where
  range := by rw [first, last]; exact h.range
  link := by rw [stage, kind]; exact h.link
  cut l hl pc hp := by
    have covers := pieces l hl pc hp
    unfold Context.covers at covers ⊢
    rwa [first, last, stage, kind, wrap, addr]
  block w hs hk hw := by
    have block := h.block w (stage ▸ hs) (kind ▸ hk) (wrap ▸ hw)
    unfold Context.blockOk at block ⊢
    rwa [first, last, addr]
  linear hn := by
    rw [first, last, access.1, access.2]
    refine h.linear ?_
    rwa [stage, kind, wrap] at hn
  journal hs hk := by
    obtain ⟨same, nonempty, hop⟩ := h.journal (stage ▸ hs) (kind ▸ hk)
    refine ⟨by rw [addr, first, same], by rwa [first, last], fun ha hstep => ?_⟩
    obtain ⟨step, result⟩ := journal ha
    rw [result, first, last]
    exact hop (kind ▸ ha) (step ▸ hstep)

/-- The address and the length of an access do not depend on what a burst's end or a turn writes. -/
theorem access_congr {c d : Context} (stage : d.stage = c.stage) (kind : d.kind = c.kind) (addr : d.addr = c.addr)
    (length : d.length = c.length ∨ c.kind = .append ∨ c.kind = .journalRestart) (step : d.step = c.step)
    (offset : d.opOffset = c.opOffset) (payload : d.payload = c.payload) (journal : c.kind = .append → d.result = c.result) :
    d.access.addr = c.access.addr ∧ d.access.len = c.access.len := by
  unfold Context.access
  rw [stage, kind]
  split <;> rename_i hs hk
  case h_1 => exact ⟨addr, rfl⟩
  case h_4 => exact ⟨addr, rfl⟩
  case h_5 =>
    unfold Context.appendAccess
    rw [journal hk, step, addr, payload]
    exact ⟨rfl, rfl⟩
  case h_6 =>
    unfold Context.restartAccess
    rw [step, addr, offset]
    exact ⟨rfl, rfl⟩
  all_goals
    rw [hk] at length
    exact ⟨addr, length.resolve_right (by simp)⟩

/-- A burst's end keeps a context in its word range (R28, R64). -/
theorem Context.InRange.advance {c : Context} (h : c.InRange) (ws : List (Nat × Word)) (n : Nat) :
    ({ c.place ws with progress := c.progress + n, parityOk := true } : Context).InRange := by
  have result (hk : c.kind = .append) : (c.place ws).result = c.result := by rw [Context.place, if_pos hk]
  rw [Context.place_frame]
  exact h.congr rfl rfl rfl rfl rfl rfl (access_congr rfl rfl rfl (.inl rfl) rfl rfl rfl result) h.cut fun hk => ⟨rfl, result hk⟩

/-- A turn keeps a context in its word range (R59). -/
theorem Context.InRange.openAccess {c : Context} (h : c.InRange) {rest : List Piece} (hr : ∀ pc ∈ rest, c.covers pc) :
    ({ c.openAccess with state := .serving, pieces := some rest, parityOk := true } : Context).InRange := by
  have pieces (l : List Piece) (hl : some rest = some l) : ∀ pc ∈ l, c.covers pc := Option.some.inj hl ▸ hr
  unfold Context.openAccess
  split
  case h_1 hk =>
    exact h.congr rfl rfl rfl rfl rfl rfl (access_congr rfl rfl rfl (.inr (.inl hk)) rfl rfl rfl (fun _ => rfl))
      pieces fun _ => ⟨rfl, rfl⟩
  case h_2 hk =>
    exact h.congr rfl rfl rfl rfl rfl rfl (access_congr rfl rfl rfl (.inr (.inr hk)) rfl rfl rfl (fun _ => rfl))
      pieces fun _ => ⟨rfl, rfl⟩
  case h_3 =>
    exact h.congr rfl rfl rfl rfl rfl rfl (access_congr rfl rfl rfl (.inl rfl) rfl rfl rfl (fun _ => rfl))
      pieces fun _ => ⟨rfl, rfl⟩

end Sys2Proof.Machine

namespace Sys2Proof.Machine

/-! ## The working values of an append (Table 8-3) -/

/-- Working values that their words of the result buffer hold. -/
structure Working.Fits (w : Working) : Prop where
  c : w.c < 4294967296
  fill : w.fill < 4294967296
  s : w.s < 4294967296
  size : w.size < 4294967296
  next : w.next < 4294967296

theorem Working.ofResult_fits (l : List Word) : (Working.ofResult l).Fits :=
  ⟨BitVec.isLt _, BitVec.isLt _, BitVec.isLt _, BitVec.isLt _, BitVec.isLt _⟩

theorem toNat_word {n : Nat} (h : n < 4294967296) : (word n).toNat = n := by
  rw [word, BitVec.toNat_ofNat, Nat.mod_eq_of_lt h]

/-- The working values are read back as they were stored. -/
theorem Working.ofResult_toResult {w : Working} (h : w.Fits) (l : List Word) : Working.ofResult (w.toResult l) = w := by
  cases w with
  | mk c fill s size next hopped =>
    obtain ⟨hc, hf, hs, hz, hn⟩ := h
    simp only [Working.ofResult, Working.toResult, List.cons_append, List.nil_append, List.getD_cons_zero,
      List.getD_cons_succ, toNat_word hc, toNat_word hf, toNat_word hs, toNat_word hz, toNat_word hn]
    cases hopped <;> rfl

theorem offsetField_lt (w : Word) : offsetField w < 4294967296 := by
  unfold offsetField
  omega

theorem lowHalf_lt (w : Word) : lowHalf w < 4294967296 := by
  unfold lowHalf
  omega

theorem fillField_lt (w : Word) : fillField w < 4294967296 := (Nat.div_le_self ..).trans_lt w.isLt

theorem headerFits_iff (limit x : Nat) : headerFits limit x = true ↔ 1 ≤ x ∧ x + 3 ≤ limit := by
  simp [headerFits]

/-! ## Verdicts -/

/-- An append's record as it goes on with the access of a step. -/
def Context.goneOn (c : Context) (step : AppendStep) (w : Working) : Context :=
  { c with step := step, result := w.toResult c.result, pieces := none }

section
variable {c : Context} (h : c.InRange) (stage : c.stage = .main)
include h stage

/-- An append goes on with an access inside its segment. -/
theorem goOn_inRange (kind : c.kind = .append) {step : AppendStep} {w : Working} (fits : w.Fits)
    (low : c.first ≤ (c.goneOn step w).appendAccess.addr)
    (high : (c.goneOn step w).appendAccess.addr + (c.goneOn step w).appendAccess.len ≤ c.last)
    (hop : step = .freshWrite ∨ step = .anchorWrite → w.next + w.size ≤ c.last - c.first) {d : Context}
    (hd : c.goOn step w = .plan d) : d.InRange := by
  obtain rfl : c.goneOn step w = d := Verdict.plan.inj hd
  obtain ⟨same, nonempty, -⟩ := h.journal stage (.inl kind)
  exact
    { range := h.range
      link := fun hs => absurd (hs.symm.trans stage) nofun
      cut := nofun
      block := fun w _ hk => absurd (hk.symm.trans kind) nofun
      linear := fun _ => by
        have access : (c.goneOn step w).access = (c.goneOn step w).appendAccess := by
          unfold Context.access
          rw [show (c.goneOn step w).stage = .main from stage, show (c.goneOn step w).kind = .append from kind]
        rw [access]
        exact ⟨low, high⟩
      journal := fun _ _ => ⟨same, nonempty, fun _ hs => by
        simp only [Context.goneOn, Working.ofResult_toResult fits]
        exact hop hs⟩ }

theorem fitDecision_inRange (kind : c.kind = .append) {w : Working} (fits : w.Fits)
    (block : w.c + w.size ≤ c.last - c.first) {d : Context} (hd : c.fitDecision (c.last - c.first) w = .plan d) :
    d.InRange := by
  obtain ⟨same, nonempty, -⟩ := h.journal stage (.inl kind)
  unfold Context.fitDecision at hd
  split at hd
  · refine goOn_inRange h stage kind fits ?_ ?_ (by simp) hd <;>
      simp only [Context.appendAccess, Context.goneOn, Working.ofResult_toResult fits] <;> omega
  · split at hd
    · cases hd
    · split at hd
      · cases hd
      · split at hd
        · rename_i header
          rw [headerFits_iff] at header
          refine goOn_inRange h stage kind fits ?_ ?_ (by simp) hd <;>
            simp only [Context.appendAccess, Context.goneOn, Working.ofResult_toResult fits] <;> omega
        · cases hd

/-- Every step of the append sequence stays in the segment (R113 to R117). -/
theorem appendStep_inRange (kind : c.kind = .append) {d : Context} (hd : c.appendStep = .plan d) : d.InRange := by
  obtain ⟨same, nonempty, hop⟩ := h.journal stage (.inl kind)
  obtain ⟨low, high⟩ := h.linear fun hn => absurd (hn.2.1.symm.trans kind) nofun
  have access : c.access = c.appendAccess := by rw [Context.access, stage, kind]
  rw [access, Context.appendAccess] at low high
  have fits := Working.ofResult_fits c.result
  unfold Context.appendStep at hd
  dsimp only at hd
  split at hd <;> rename_i step <;> rw [step] at low high
  case h_1 =>
    split at hd
    · rename_i header
      rw [headerFits_iff] at header
      have read : Working.Fits { Working.ofResult c.result with c := offsetField (c.scratch.getD 0 0) } :=
        ⟨offsetField_lt _, fits.fill, fits.s, fits.size, fits.next⟩
      refine goOn_inRange h stage kind read ?_ ?_ (by simp) hd <;>
        simp only [Context.appendAccess, Context.goneOn, Working.ofResult_toResult read] <;> omega
    · cases hd
  case h_2 =>
    split at hd
    · rename_i ok
      exact fitDecision_inRange h stage kind
        (by exact ⟨fits.c, fillField_lt _, lowHalf_lt _, lowHalf_lt _, offsetField_lt _⟩) (by exact ok.2.1) hd
    · cases hd
  case h_3 =>
    split at hd
    · rename_i ok
      have read : Working.Fits { Working.ofResult c.result with size := lowHalf (c.scratch.getD 0 0) } :=
        ⟨fits.c, fits.fill, fits.s, lowHalf_lt _, fits.next⟩
      refine goOn_inRange h stage kind read ?_ ?_ (fun _ => ok.2) hd <;>
        simp only [Context.appendAccess, Context.goneOn, Working.ofResult_toResult read] <;> omega
    · cases hd
  case h_4 =>
    refine goOn_inRange h stage kind fits ?_ ?_ (fun _ => hop kind (.inl step)) hd <;>
      simp only [Context.appendAccess, Context.goneOn] <;> omega
  case h_5 =>
    exact fitDecision_inRange h stage kind (by exact ⟨fits.next, (by decide : 3 < 4294967296), fits.s, fits.size, fits.next⟩)
      (by exact hop kind (.inr step)) hd
  case h_6 =>
    refine goOn_inRange h stage kind fits ?_ ?_ (by simp) hd <;>
      simp only [Context.appendAccess, Context.goneOn, Working.ofResult_toResult fits] <;> simp only at high <;> omega
  case h_7 => cases hd

/-- The anchor write of a restart stays in the segment (R120). -/
theorem restartStep_inRange (kind : c.kind = .journalRestart) {d : Context} (hd : c.restartStep = .plan d) :
    d.InRange := by
  obtain ⟨same, nonempty, -⟩ := h.journal stage (.inr kind)
  obtain ⟨-, rfl⟩ := Context.restartStep_plan hd
  exact
    { range := h.range
      link := fun hs => absurd (hs.symm.trans stage) nofun
      cut := nofun
      block := fun w _ hk => absurd (hk.symm.trans kind) nofun
      linear := fun _ => by
        unfold Context.access Context.restartAccess
        dsimp only
        rw [stage, kind]
        dsimp only
        omega
      journal := fun _ _ => ⟨same, nonempty, fun hk => absurd (hk.symm.trans kind) nofun⟩ }

end

theorem swapStep_inRange {c : Context} (h : c.InRange) {d : Context} (hd : c.swapStep = .plan d) : d.InRange := by
  obtain ⟨-, -, rfl⟩ := Context.swapStep_plan hd
  exact h.congr rfl rfl rfl rfl rfl rfl ⟨rfl, rfl⟩ nofun fun _ => ⟨rfl, rfl⟩

/-! ## Resolution and admission -/

/-- A direct or journal segment, or a link word's two words, in its region. -/
theorem Descriptor.readInside_iff (d : Descriptor) (f n : Nat) :
    d.readInside f n = true ↔ f + n ≤ d.limit ∧ (d.wraps n = true →
      d.base ≤ blockBase (d.base + f) d.block ∧ blockBase (d.base + f) d.block + d.block ≤ d.base + d.limit) := by
  cases hw : d.wraps n <;> simp [Descriptor.readInside, hw]

/-- The resolution of a request whose words lie in the segment (R16, R17). -/
theorem resolve_inRange (c : Context) {d : Descriptor} {t n : Nat}
    (kind : c.kind = .read ∨ c.kind = .write ∨ c.kind = .compareSwap) (inside : d.inside c.kind t n = true)
    (words : d.base + d.limit ≤ Config.regionWords) : (c.resolve d t n).InRange := by
  have linear (f l : Nat) (hf : (c.resolve d t n).first = f) (hl : (c.resolve d t n).last = l)
      (wrap : (c.resolve d t n).wrap = none) (low : f ≤ d.base + t)
      (high : d.base + t + (c.resolve d t n).access.len ≤ l) (top : l ≤ d.base + d.limit) :
      (c.resolve d t n).InRange := by
    have addr : (c.resolve d t n).access.addr = d.base + t := by
      obtain hk | hk | hk := kind <;> simp [Context.access, Context.resolve, hk]
    exact
      { range := by rw [hf, hl]; omega
        link := nofun
        cut := nofun
        block := fun w _ _ hw => by rw [wrap] at hw; cases hw
        linear := fun _ => by rw [addr, hf, hl]; exact ⟨low, high⟩
        journal := fun _ hk => by
          change c.kind = .append ∨ c.kind = .journalRestart at hk
          obtain hk' | hk' | hk' := kind <;> simp [hk'] at hk }
  obtain hk | hk | hk := kind
  · simp only [Descriptor.inside, hk] at inside
    obtain ⟨fit, block⟩ := (d.readInside_iff t n).mp inside
    by_cases wraps : d.wraps n = true
    · obtain ⟨low, high⟩ := block wraps
      have pos : 1 < d.block := by
        simp only [Descriptor.wraps, Bool.and_eq_true, decide_eq_true_eq] at wraps
        exact wraps.2
      have wrap : wrapOf d n (d.base + t) =
          some ⟨d.order, d.block, blockBase (d.base + t) d.block, (d.base + t) % d.block⟩ := by simp [wrapOf, wraps]
      have hm : (d.base + t) % d.block < d.block := Nat.mod_lt _ (by omega)
      have hb : blockBase (d.base + t) d.block = d.base + t - (d.base + t) % d.block := rfl
      have first : (c.resolve d t n).first = blockBase (d.base + t) d.block := by simp [Context.resolve, hk, wrap]
      have last : (c.resolve d t n).last = blockBase (d.base + t) d.block + d.block := by
        simp [Context.resolve, hk, wrap]
      have wrap' : (c.resolve d t n).wrap = wrapOf d n (d.base + t) := by simp [Context.resolve, hk]
      exact
        { range := by rw [first, last]; omega
          link := nofun
          cut := nofun
          block := fun w _ _ hw => by
            obtain rfl := Option.some.inj (wrap.symm.trans (wrap'.symm.trans hw))
            refine ⟨Nat.zero_lt_of_lt pos, first, last, hb, ?_⟩
            rw [last]
            change d.base + t < _
            omega
          linear := fun hn => absurd ⟨rfl, hk, by rw [wrap', wrap]; rfl⟩ hn
          journal := fun _ hj => by
            change c.kind = .append ∨ c.kind = .journalRestart at hj
            simp [hk] at hj }
    · have wrap : wrapOf d n (d.base + t) = none := by simp [wrapOf, wraps]
      refine linear (d.base + t) (d.base + t + n) ?_ ?_ ?_ le_rfl ?_ (by omega) <;>
        simp [Context.resolve, Context.access, hk, wrap]
  · simp only [Descriptor.inside, hk, decide_eq_true_eq] at inside
    refine linear (d.base + t) (d.base + t + n) ?_ ?_ ?_ le_rfl ?_ (by omega) <;>
      simp [Context.resolve, Context.access, hk]
  · simp only [Descriptor.inside, hk, decide_eq_true_eq] at inside
    refine linear (d.base + t) (d.base + t + 1) ?_ ?_ ?_ le_rfl ?_ (by omega) <;>
      simp [Context.resolve, Context.access, hk]

end Sys2Proof.Machine

namespace Sys2Proof.Machine

/-! ## Admission -/

theorem translateRequest_eq_none_iff (d : Descriptor) (k : ReqKind) (ring : Ring) (f n : Nat) :
    translateRequest d k ring f n = none ↔
      d.kind ≠ .absent ∧ kindAllowed k d.kind = true ∧
        (d.kind = .indirect → within ring d.readBracket = true) ∧
        (d.kind ≠ .indirect → d.inside k f n = true ∧ d.admits k ring = true) := by
  unfold translateRequest
  split
  · simp_all
  · split
    · simp_all
    · split
      · split <;> simp_all
      · split
        · simp_all
        · split <;> simp_all

theorem kindAllowed_iff (k : ReqKind) (x : SegKind) :
    kindAllowed k x = true ↔
      x = .direct ∧ k ≠ .append ∧ k ≠ .journalRestart ∨ x = .indirect ∧ (k = .read ∨ k = .write ∨ k = .compareSwap) ∨
        x = .journal ∧ (k = .read ∨ k = .append ∨ k = .journalRestart) := by
  cases k <;> cases x <;> simp [kindAllowed]

theorem accessContext_inRange {d : Descriptor} (hd : d.inRegion) (p : Port) (h : Hdr) {k : ReqKind} {eff : Ring}
    (ring : Ring) {f n : Nat} (pl : List Word) (kind : k = .read ∨ k = .write ∨ k = .compareSwap)
    (passed : translateRequest d k eff f n = none) : (accessContext p h k d eff ring f n pl).InRange := by
  obtain ⟨-, allowed, -, inside⟩ := (translateRequest_eq_none_iff ..).mp passed
  unfold accessContext
  dsimp only
  split
  · rename_i indirect
    have words := hd.2 indirect
    exact
      { range := by simp only [Context.toLink]; omega
        link := fun _ => kind
        cut := nofun
        block := nofun
        linear := fun _ => ⟨le_rfl, le_rfl⟩
        journal := nofun }
  · rename_i indirect
    obtain ⟨inside, -⟩ := inside indirect
    obtain ⟨x, -⟩ | ⟨x, -⟩ | ⟨x, -⟩ := (kindAllowed_iff ..).mp allowed
    · exact resolve_inRange _ kind inside (hd.1 (.inl x)).2
    · exact absurd x indirect
    · exact resolve_inRange _ kind inside (hd.1 (.inr x)).2

theorem journalContext_inRange {d : Descriptor} (hd : d.inRegion) (p : Port) (h : Hdr) {k : ReqKind} {eff : Ring}
    (ring : Ring) {f : Nat} (pl : List Word) (kind : k = .append ∨ k = .journalRestart)
    (passed : translateRequest d k eff f 0 = none) : (journalContext p h k d eff ring f pl).InRange := by
  obtain ⟨-, allowed, -, inside⟩ := (translateRequest_eq_none_iff ..).mp passed
  have journal : d.kind = .journal := by
    obtain ⟨-, ha, hj⟩ | ⟨-, hk⟩ | ⟨x, -⟩ := (kindAllowed_iff ..).mp allowed
    · exact absurd kind (by simp [ha, hj])
    · obtain rfl | rfl := kind <;> simp at hk
    · exact x
  obtain ⟨inside, -⟩ := inside (by simp [journal])
  obtain ⟨pos, words⟩ := hd.1 (.inr journal)
  have first : (if k = .append then AppendStep.anchorRead else .freshWrite) = .freshWrite ∨
      (if k = .append then AppendStep.anchorRead else .freshWrite) = .anchorWrite → k ≠ .append := by
    split <;> simp_all
  exact
    { range := by simp only [journalContext]; omega
      link := nofun
      cut := nofun
      block := nofun
      linear := fun _ => by
        obtain rfl | rfl := kind
        · simp only [Context.access, journalContext, newContext, Context.appendAccess, if_true]
          omega
        · simp only [Descriptor.inside, Bool.and_eq_true, decide_eq_true_eq] at inside
          simp [Context.access, journalContext, newContext, Context.restartAccess]
          omega
      journal := fun _ _ => ⟨rfl, by simp only [journalContext]; omega, fun ha hs => absurd ha (first hs)⟩ }

theorem roundedPos_eq_zero (p : Nat) : roundedPos p 0 = 0 := by simp [roundedPos]

/-- The words of an item that lies in its segment (R128). -/
theorem itemWords_fit {p size limit : Nat} (pos : 1 ≤ limit) (h : roundedPos p size + size ≤ limit * 4) :
    roundedPos p size / 4 + Machine.itemWords size ≤ limit := by
  unfold Machine.itemWords
  split
  · rename_i eight
    subst eight
    have aligned : roundedPos p 8 % 8 = 0 := by unfold roundedPos; omega
    omega
  · by_cases zero : size = 0
    · rw [zero, roundedPos_eq_zero]
      omega
    · omega

theorem cursorContext_inRange {d : Descriptor} (hd : d.inRegion) (p : Port) (h : Hdr) {k : ReqKind} (idx : Fin 2)
    {cu : Cursor} (pl : List Word) (kind : k = .cursorRead ∨ k = .cursorWrite)
    (passed : translateRequest d k cu.ring (roundedPos cu.pos cu.size) cu.size = none) :
    (cursorContext p h k d idx cu pl).InRange := by
  obtain ⟨-, allowed, -, inside⟩ := (translateRequest_eq_none_iff ..).mp passed
  have direct : d.kind = .direct := by
    obtain ⟨x, -⟩ | ⟨-, hk⟩ | ⟨-, hk⟩ := (kindAllowed_iff ..).mp allowed
    · exact x
    all_goals obtain rfl | rfl := kind <;> simp at hk
  obtain ⟨inside, -⟩ := inside (by simp [direct])
  obtain ⟨pos, words⟩ := hd.1 (.inl direct)
  have fit : roundedPos cu.pos cu.size / 4 + itemWords cu.size ≤ d.limit := by
    refine itemWords_fit pos ?_
    obtain rfl | rfl := kind <;> simpa [Descriptor.inside] using inside
  exact
    { range := by simp only [cursorContext]; omega
      link := nofun
      cut := nofun
      block := nofun
      linear := fun _ => by obtain rfl | rfl := kind <;> exact ⟨le_rfl, le_rfl⟩
      journal := fun _ hk => by
        change k = .append ∨ k = .journalRestart at hk
        obtain rfl | rfl := kind <;> simp at hk }

theorem AdmittedContext.inRange {s : State} {c : Context} (a : AdmittedContext s c)
    (segments : ∀ i, (s.segment i).inRegion) : c.InRange := by
  cases a with
  | access p h k seg eff ring f n pl kind passed => exact accessContext_inRange (segments seg) p h ring pl kind passed
  | journal p h k seg eff ring f pl kind passed => exact journalContext_inRange (segments seg) p h ring pl kind passed
  | cursorStep p h k idx pl kind ready passed => exact cursorContext_inRange (segments _) p h idx pl kind passed

theorem linkRefusal_eq_none {d : Descriptor} {k : ReqKind} {ring : Ring} {t n : Nat}
    (h : linkRefusal d k ring t n = none) : d.kind = .direct ∧ d.inside k t n = true := by
  unfold linkRefusal at h
  split at h
  · cases h
  · split at h
    · cases h
    · split at h
      · cases h
      · split at h
        · cases h
        · rename_i absent indirect journal inside
          refine ⟨?_, Bool.not_eq_false _ ▸ inside⟩
          cases hk : d.kind <;> simp_all

/-! ## Regions in range -/

/-- A region's patrol groups, patrol read and burst in its words. -/
structure Region.InRange (g : Region) : Prop where
  patrol : patrolInRegion g.patrol.addr
  written : ∀ w, g.written = some w → patrolInRegion w.addr
  patrolRead : ∀ pr, g.patrolRead = some pr → patrolInRegion pr.addr ∧ ∀ pc ∈ pr.rest, pc.within pr.addr (pr.addr + 4)
  burst : ∀ b, g.burst = some b → b.Sound

theorem RangeInv.region {s : State} (h : RangeInv s) (r : RegionId) : (s.region r).InRange :=
  ⟨h.patrol r, h.written r, h.patrolRead r, fun b hb => ⟨h.bursts r b hb, h.writes r b hb⟩⟩

theorem RangeInv.of_regions {s : State} (segments : ∀ i, (s.segment i).inRegion) (regions : ∀ r, (s.region r).InRange)
    (contexts : ∀ i, (s.ctx i).queued → (s.ctx i).InRange) : RangeInv s :=
  ⟨segments, fun r => (regions r).patrol, fun r => (regions r).written, fun r => (regions r).patrolRead, contexts,
    fun r b hb => ((regions r).burst b hb).1, fun r b hb => ((regions r).burst b hb).2⟩

theorem Region.InRange.enterPatrol {g : Region} (h : g.InRange) : patrolInRegion (g.written.getD g.patrol).addr := by
  cases hw : g.written with
  | none => exact h.patrol
  | some w => exact h.written w hw

theorem Burst.Sound.abandon {b : Option Burst} (h : ∀ x, b = some x → x.Sound) :
    ∀ x, b.map Burst.abandon = some x → x.Sound := by
  intro x hx
  obtain ⟨y, hy, rfl⟩ := Option.map_eq_some_iff.mp hx
  exact h y hy

/-- A region that keeps its patrol group and burst, and at most drops its patrol read. -/
theorem Region.InRange.of_eq {g k : Region} (h : g.InRange) (hp : k.patrol = g.patrol) (hw : k.written = g.written)
    (hr : k.patrolRead = g.patrolRead ∨ k.patrolRead = none) (hb : k.burst = g.burst) : k.InRange where
  patrol := hp ▸ h.patrol
  written w e := h.written w (hw ▸ e)
  patrolRead pr e := by
    obtain hr | hr := hr <;> rw [hr] at e
    · exact h.patrolRead pr e
    · cases e
  burst b e := h.burst b (hb ▸ e)

theorem Region.InRange.halt {g : Region} (h : g.InRange) : g.halt.InRange := by
  rw [Region.halt_eq]
  exact ⟨h.enterPatrol, nofun, nofun, Burst.Sound.abandon h.burst⟩

end Sys2Proof.Machine

namespace Sys2Proof.Machine

/-! ## What the shared operations keep in range -/

namespace RangeInv

variable {s t : State} {r : RegionId} (h : RangeInv s)
include h

theorem setRegion {g : Region} (hg : g.InRange) : RangeInv (s.setRegion r g) :=
  .of_regions h.segments (forall_setRegion (p := fun _ k => k.InRange) hg h.region) h.contexts

theorem setRegions {v : Vector Region 8} (hv : ∀ r, ({ s with regions := v }.region r).InRange) :
    RangeInv { s with regions := v } := .of_regions h.segments hv h.contexts

theorem setCtx {i : CtxId} {c : Context} (hc : c.queued → c.InRange) : RangeInv (s.setCtx i c) :=
  .of_regions h.segments h.region (forall_setCtx (p := fun _ c => c.queued → c.InRange) hc h.contexts)

theorem raise (f : AlertFlag) : RangeInv (s.raise f) := { h with }

theorem release (i : CtxId) : RangeInv (s.release i) :=
  RangeInv.setCtx (s := s.setCount _ _) { h with } fun hq => by simp [Context.queued, Context.free] at hq

theorem clearMarker (c : Context) : RangeInv (s.clearMarker c) := by
  unfold State.clearMarker
  split
  · exact { h with }
  · exact h

theorem leaveQueue (i : CtxId) : RangeInv (s.leaveQueue r i) := by
  refine h.setRegion ?_
  rw [Region.leave_frame]
  exact (h.region r).of_eq rfl rfl (.inl rfl) rfl

theorem endCtx (i : CtxId) (st : Status) (ws : List Word) : RangeInv (s.endCtx i st ws) := by
  have ended := ((h.leaveQueue (r := (s.ctx i).region) i).clearMarker (s.ctx i)).setCtx (i := i)
    (c := (s.ctx i).ended st ws) fun hq => by simp [Context.queued, Context.ended] at hq
  rw [endCtx_eq]
  split
  · exact { ended with }
  · exact ended.release i

theorem endAll (l : List CtxId) (st : Status) : RangeInv (s.endAll l st) := foldl_keeps (fun _ i h => h.endCtx i st []) l h

theorem enterOffline (r : RegionId) : RangeInv (s.enterOffline r) :=
  (h.endAll _ _).setRegion (((h.endAll _ _).region r).of_eq rfl rfl (.inr rfl) rfl)

theorem poisonEntry (f : FaultItem) : RangeInv (s.poisonEntry f) := by
  cases f with
  | profile r g => exact h.setRegion ((h.region r).of_eq rfl rfl (.inl rfl) rfl)
  | _ => exact { h with }

theorem takeFault (f : FaultItem) : RangeInv (s.takeFault f) := by
  unfold State.takeFault
  split
  · exact (h.poisonEntry f).raise _
  · let u : State := { s with record := some { item := f, prior := s.mode }, mode := .contained, failPin := true }
    have poisoned : RangeInv (u.poisonEntry f) := RangeInv.poisonEntry (s := u) { h with } f
    have halted := poisoned.setRegions (v := (u.poisonEntry f).regions.map Region.halt) fun r => by
      rw [region_map]
      exact (poisoned.region r).halt
    let v : State := { u.poisonEntry f with
      regions := (u.poisonEntry f).regions.map Region.halt, holder := none, waiting := [] }
    exact (RangeInv.endAll (s := v) { halted with } _ _).raise _

theorem faultAt (k : CheckKind) (f : FaultItem) : RangeInv (s.faultAt k f) :=
  RangeInv.takeFault (s := { s with inject := s.inject.consume k }) { h with } f

/-! ## Strobe-feedback inputs -/

theorem takeInputs (r : RegionId) : RangeInv (s.takeInputs r) := by
  have taken : RangeInv (s.setRegion r { s.region r with training := (s.region r).training.map Training.probe }) :=
    h.setRegion ((h.region r).of_eq rfl rfl (.inl rfl) rfl)
  exact { taken with }

theorem releaseInputs : RangeInv s.releaseInputs := by
  unfold State.releaseInputs
  split
  · exact { h with }
  · rename_i q rest _
    exact RangeInv.takeInputs (s := { s with holder := none, waiting := rest }) { h with } q

theorem leaveInputs (r : RegionId) : RangeInv (s.leaveInputs r) := by
  unfold State.leaveInputs
  split
  · exact h.releaseInputs
  · exact { h with }

theorem becomeReady (r : RegionId) : RangeInv (s.becomeReady r) := by
  unfold State.becomeReady
  split
  · exact h.takeInputs r
  · exact { h with }

/-! ## Bursts -/

theorem issueCtx {k : Nat} {i : CtxId} (hc : (s.ctx i).InRange) : RangeInv (s.issueCtx r k i) := by
  unfold State.issueCtx
  dsimp only
  split
  · exact h
  · rename_i pc rest cut
    have covers (x : Piece) (hx : x ∈ pc :: rest) : (s.ctx i).covers x := by
      rw [← cut] at hx
      cases hp : (s.ctx i).pieces with
      | some l => rw [hp] at hx; exact hc.cut l hp x hx
      | none => rw [hp] at hx; exact hc.plan hx
    have served := h.setCtx (i := i)
      (c := { (s.ctx i).openAccess with state := .serving, pieces := some rest, parityOk := true })
      fun _ => hc.openAccess fun x hx => covers x (List.mem_cons_of_mem _ hx)
    refine served.setRegion ⟨(h.region r).patrol, (h.region r).written, (h.region r).patrolRead, fun b hb => ?_⟩
    obtain rfl := Option.some.inj hb
    refine ⟨hc.inRange (covers pc List.mem_cons_self) rfl rfl rfl, fun write => ?_⟩
    have write : (s.ctx i).access.write = true := write
    exact ⟨Context.InRange.linear_of_write write (covers pc List.mem_cons_self), by simp [write]⟩

theorem openPatrol (r : RegionId) : patrolInRegion (s.region r).openPatrol.addr ∧
    ∀ pc ∈ (s.region r).openPatrol.rest, pc.within (s.region r).openPatrol.addr ((s.region r).openPatrol.addr + 4) := by
  unfold Region.openPatrol
  cases hp : (s.region r).patrolRead with
  | some pr => exact h.patrolRead r pr hp
  | none => exact ⟨h.patrol r, fun pc => within_of_mem_cut⟩

theorem issuePatrol {pc : Piece} {rest : List Piece} (ho : (s.region r).openPatrol.rest = pc :: rest) :
    RangeInv (s.setRegion r
      { (s.region r).issue .patrol pc false [] with patrolRead := some { (s.region r).openPatrol with rest := rest } }) := by
  obtain ⟨addr, pieces⟩ := h.openPatrol r
  rw [ho] at pieces
  refine h.setRegion ⟨(h.region r).patrol, (h.region r).written, fun pr e => ?_, fun b hb => ?_⟩
  · obtain rfl := Option.some.inj e
    exact ⟨addr, fun x hx => pieces x (List.mem_cons_of_mem _ hx)⟩
  · obtain rfl := Option.some.inj hb
    exact ⟨inRange_of_within rfl rfl rfl (pieces pc List.mem_cons_self) addr, nofun⟩

theorem burstMoved (b : Burst) (taken : Nat → Bool) : RangeInv (s.burstMoved r b taken) := by
  have ended : (s.region r).endBurst.InRange := by
    rw [Region.endBurst, Region.admitPatrol_of_quiet rfl]
    exact ⟨(h.region r).enterPatrol, nofun, (h.region r).patrolRead, nofun⟩
  exact { h.setRegion ended with }

/-! ## Completions -/

theorem settle {i : CtxId} {v : Verdict} (hv : ∀ d, v = .plan d → d.InRange) : RangeInv (s.settle i v) := by
  cases v with
  | plan d => exact h.setCtx fun _ => hv d rfl
  | ends st ws => exact h.endCtx i st ws

theorem linkCompletion {i : CtxId} (kind : (s.ctx i).kind = .read ∨ (s.ctx i).kind = .write ∨ (s.ctx i).kind = .compareSwap) :
    RangeInv (s.linkCompletion i) := by
  unfold State.linkCompletion
  dsimp only
  split
  · exact h.endCtx ..
  · split
    · exact h.faultAt ..
    · split
      · exact h.endCtx ..
      · rename_i passed
        obtain ⟨direct, inside⟩ := linkRefusal_eq_none passed
        split
        · exact h.endCtx ..
        · have moved := (h.leaveQueue (r := (s.ctx i).region) i).setCtx (i := i) fun _ =>
            resolve_inRange { s.ctx i with ring := weaker (s.ctx i).ring (linkRing ((s.ctx i).result.getD 0 0)) } kind
              inside ((h.segments _).1 (.inl direct)).2
          exact moved.setRegion ((moved.region _).of_eq rfl rfl (.inl rfl) rfl)

theorem accessEnd {i : CtxId} (hc : (s.ctx i).InRange) : RangeInv (s.accessEnd i) := by
  unfold State.accessEnd
  dsimp only
  split
  case h_1 stage => exact h.linkCompletion (hc.link stage)
  case h_2 | h_3 => exact h.endCtx ..
  case h_4 => exact h.settle fun d => swapStep_inRange hc
  case h_5 stage kind => exact h.settle fun d => appendStep_inRange hc stage kind
  case h_6 stage kind => exact h.settle fun d => restartStep_inRange hc stage kind
  case h_7 | h_8 =>
    have stepped : RangeInv (s.setCursor (s.ctx i).source (s.ctx i).cursor
        ((s.cursor (s.ctx i).source (s.ctx i).cursor).stepped (s.ctx i))) := { h with }
    exact stepped.endCtx ..

theorem contextCompletion {i : CtxId} (hc : (s.ctx i).InRange) (b : Burst) (ws : List (Nat × Word)) :
    RangeInv (s.contextCompletion i b ws) := by
  have advanced : RangeInv (s.advance i b ws) := h.setCtx fun _ => hc.advance ws b.len
  unfold State.contextCompletion
  dsimp only
  split
  · refine advanced.accessEnd ?_
    rw [State.advance, ctx_setCtx]
    exact hc.advance ws b.len
  · exact advanced

theorem patrolCompletion (words : List Word) : RangeInv (s.patrolCompletion r words) := by
  unfold State.patrolCompletion
  dsimp only
  split
  · rename_i pr _ hp
    split
    · have done : RangeInv (s.setRegion r { s.region r with due := false, patrolRead := none }) :=
        h.setRegion ((h.region r).of_eq rfl rfl (.inr rfl) rfl)
      unfold State.comparePatrol
      split
      · exact done
      · split
        · exact done.takeFault _
        · exact done.raise _
    · refine h.setRegion ⟨(h.region r).patrol, (h.region r).written, fun x e => ?_, (h.region r).burst⟩
      obtain rfl := Option.some.inj e
      exact h.patrolRead r pr hp
  · exact h

theorem timeOut (b : Burst) (moved : Nat) : RangeInv (s.timeOut r b moved) := by
  have left : RangeInv { s.burstMoved r b (s.timeoutTaken moved) with freeCount := s.freeCount + 1 } :=
    { h.burstMoved b (s.timeoutTaken moved) with }
  unfold State.timeOut
  dsimp only
  split
  · exact ((left.endCtx _ _ _).enterOffline r).raise _
  · exact (left.enterOffline r).raise _

end RangeInv

end Sys2Proof.Machine

namespace Sys2Proof.Machine

namespace RangeInv

variable {s t : State} {r : RegionId} (h : RangeInv s)
include h

/-! ## Timing groups, pending actions and region commands -/

theorem setRegister {g : Region} (hp : g.patrol = (s.region r).patrol) (hw : g.written = (s.region r).written)
    (hr : g.patrolRead = (s.region r).patrolRead ∨ g.patrolRead = none) (hb : g.burst = (s.region r).burst) :
    RangeInv (s.setRegion r g) := h.setRegion ((h.region r).of_eq hp hw hr hb)

theorem applyTiming (g : TimingGroup) : RangeInv (s.applyTiming r g) := by
  have settled : RangeInv
      (s.setRegion r ({ (s.region r).dropPatrol with timing := g, timingOk := true }.settleFor 2)) :=
    h.setRegister rfl rfl (.inr rfl) rfl
  exact settled.raise _

theorem carryOut (r : RegionId) : RangeInv (s.carryOut r) := by
  unfold State.carryOut
  dsimp only
  split
  · split
    · exact h.applyTiming _
    · exact h.setRegister rfl rfl (.inr rfl) rfl
    · exact h.enterOffline r
    · exact h
  · exact h

theorem retime (g : TimingGroup) : RangeInv (s.retime r g) := by
  have named : RangeInv (s.setRegion r (s.region r).unnameTiming) := h.setRegister rfl rfl (.inl rfl) rfl
  unfold State.retime
  dsimp only
  split
  · exact h.setRegister rfl rfl (.inr rfl) rfl
  · exact named.applyTiming g

theorem online (ht : s.online r = .ok t) : RangeInv t := by
  unfold State.online at ht
  dsimp only at ht
  split at ht
  · split at ht
    · exact Except.ok.inj ht ▸ h.setRegister rfl rfl (.inl rfl) rfl
    · cases ht
  · cases ht

theorem abortTraining : RangeInv (s.abortTraining r) := by
  have stopped : RangeInv (s.setRegion r { (s.region r).untrain with training := none }) :=
    h.setRegister rfl rfl (.inl rfl) rfl
  exact (stopped.leaveInputs r).enterOffline r

theorem offline (ht : s.offline r = .ok t) : RangeInv t := by
  unfold State.offline at ht
  dsimp only at ht
  split at ht
  case h_1 => exact Except.ok.inj ht ▸ h.abortTraining
  case h_2 | h_3 => exact Except.ok.inj ht ▸ h.enterOffline r
  case h_4 =>
    obtain rfl := Except.ok.inj ht
    split
    · exact h.setRegister rfl rfl (.inr rfl) rfl
    · exact h.enterOffline r
  case h_5 => exact Except.ok.inj ht ▸ h.setRegister rfl rfl (.inl rfl) rfl
  case h_6 | h_7 => cases ht

theorem parkRegion (ht : s.parkRegion r = .ok t) : RangeInv t := by
  unfold State.parkRegion at ht
  dsimp only at ht
  split at ht
  · obtain rfl := Except.ok.inj ht
    split <;> exact h.setRegister rfl rfl (.inr rfl) rfl
  all_goals cases ht

theorem unpark (ht : s.unpark r = .ok t) : RangeInv t := by
  unfold State.unpark at ht
  dsimp only at ht
  split at ht
  · obtain rfl := Except.ok.inj ht
    split
    · exact h.setRegister rfl rfl (.inl rfl) rfl
    · exact (h.enterOffline r).raise _
  · cases ht

theorem train (ht : s.train r = .ok t) : RangeInv t := by
  unfold State.train at ht
  dsimp only at ht
  split at ht
  · split at ht
    · cases ht
    · split at ht
      · cases ht
      · obtain rfl := Except.ok.inj ht
        have begun : RangeInv (s.setRegion r (s.region r).beginTraining) := h.setRegister rfl rfl (.inl rfl) rfl
        exact begun.becomeReady r
  · cases ht

/-! ## Trainings -/

theorem endTraining {g : Region} (hp : g.patrol = (s.region r).patrol) (hw : g.written = (s.region r).written)
    (hr : g.patrolRead = (s.region r).patrolRead) (hb : g.burst = (s.region r).burst) (f : AlertFlag) :
    RangeInv (s.endTraining r g f) := by
  have stopped : RangeInv (s.setRegion r { g with training := none }) := h.setRegister hp hw (.inl hr) hb
  exact ((stopped.enterOffline r).raise f).releaseInputs

theorem failTraining : RangeInv (s.failTraining r) := h.endTraining (g := (s.region r).untrain) rfl rfl rfl rfl _

theorem recordSample (v : Training) : RangeInv (s.recordSample r v) := by
  have recorded (v : Training) : RangeInv (s.setRegion r { s.region r with training := some v }) :=
    h.setRegister rfl rfl (.inl rfl) rfl
  unfold State.recordSample State.stepOutcome
  split
  · split
    · rename_i steps _
      exact h.endTraining (g := { s.region r with trained := true, delays := steps }) rfl rfl rfl rfl _
    · split
      · exact h.failTraining
      · exact (recorded v.advance).releaseInputs.becomeReady r
  · exact recorded v

/-! ## Tables, profiles and resets -/

theorem allocate {i : CtxId} {c : Context} (hc : c.InRange) : RangeInv (s.allocate i c) := by
  have placed : RangeInv (s.placed i c) := by
    have new := h.setCtx (i := i) fun _ => hc
    have counted : RangeInv ((s.setCtx i c).setCount c.source (s.count c.source + 1)) := { new with }
    exact counted.setRegister rfl rfl (.inl rfl) rfl
  rw [allocate_eq]
  split
  · exact { placed with }
  · exact placed

omit h in
theorem storedDescriptor_inRegion {d : SegOperands} (valid : segmentValid d = true) : (storedDescriptor d).inRegion := by
  unfold segmentValid at valid
  cases hk : d.kind <;>
    simp_all [storedDescriptor, Descriptor.inRegion, Descriptor.reset, segmentInRange, segmentExtentOk]
  case journal => omega

theorem storeSegment (i : SegNo) {d : SegOperands} (valid : segmentValid d = true) : RangeInv (s.storeSegment i d) := by
  have stored : RangeInv (s.setSegment i { desc := storedDescriptor d, parityOk := true }) := by
    refine .of_regions (fun j => ?_) h.region h.contexts
    by_cases hj : j = i
    · subst hj
      rw [segment_setSegment]
      exact storedDescriptor_inRegion valid
    · rw [segment_setSegment_ne s _ hj]
      exact h.segments j
  exact { stored with }

theorem storePatrol {g : PatrolGroup} (valid : validPatrol g = true) :
    RangeInv (s.setRegion r ((s.region r).storePatrol g)) := by
  have addr : patrolInRegion g.addr := by
    simp only [validPatrol, Bool.and_eq_true, decide_eq_true_eq] at valid
    unfold patrolInRegion Config.regionWords
    omega
  refine h.setRegion ?_
  unfold Region.storePatrol Region.admitPatrol
  dsimp only
  split
  · exact { h.region r with written := fun w hw => Option.some.inj hw ▸ addr }
  · exact { h.region r with patrol := addr, written := nofun }

theorem softReset : RangeInv s.softReset := by
  refine .of_regions h.segments (fun r => ?_) fun i hi => ?_
  · rw [show s.softReset.region r = (s.region r).freed from region_map s Region.freed r, Region.freed_eq]
    exact ⟨(h.region r).enterPatrol, nofun, nofun, Burst.Sound.abandon (h.region r).burst⟩
  · have free : s.softReset.ctx i = .free := by simp [State.ctx, State.softReset]
    simp [free, Context.queued, Context.free] at hi

theorem clearContainment : RangeInv s.clearContainment := by
  have left (g : Region) (hg : g.InRange) : g.leaveHalted.InRange := by
    unfold Region.leaveHalted
    dsimp only
    split
    case h_3 | h_4 | h_5 =>
      split
      · exact hg.of_eq rfl rfl (.inl rfl) rfl
      · exact hg.of_eq rfl rfl (.inr rfl) rfl
    all_goals exact hg.of_eq rfl rfl (.inr rfl) rfl
  have regions := h.setRegions (v := s.regions.map Region.leaveHalted) fun r => by
    rw [region_map]
    exact left _ (h.region r)
  exact { regions with }

end RangeInv

theorem rangeInv_reset : RangeInv State.reset := by
  have region (r : RegionId) : State.reset.region r = .reset := by simp [State.region, State.reset]
  refine .of_regions (fun i => ?_) (fun r => ?_) fun i hi => ?_
  · have segment : State.reset.segment i = .reset := by simp [State.segment, State.reset]
    rw [segment]
    exact ⟨by simp [Descriptor.reset], by simp [Descriptor.reset]⟩
  · rw [region]
    exact ⟨(by decide : 0 + 4 ≤ Config.regionWords), nofun, nofun, nofun⟩
  · have free : State.reset.ctx i = .free := reset_empty.ctxs i
    simp [free, Context.queued, Context.free] at hi

/-! ## The invariant -/

theorem rangeRules :
    InvariantRules (fun s => PoolInv s ∧ RangeInv s) (fun s => Pool False s ∧ RangeInv s) RangeInv where
  begins s h := ⟨h.1.pool False, h.2⟩
  idle s h := h.2
  ends s h := by
    rw [grantPins_frame]
    exact { h.2 with }
  deviceReset s t _ ht := by
    obtain rfl := Host.Outcome.next.inj ht
    exact { rangeInv_reset with }
  registers s ptr checks inject alerts raised mask interval h := ⟨{ h.1 with }, { h.2 with }⟩
  port s p v hv h := ⟨h.1.setPort hv, { h.2 with }⟩
  deliver s p i rest hl h :=
    ⟨h.1.deliver hl, RangeInv.release (s := s.setPort p { s.port p with delivery := rest }) { h.2 with } i⟩
  takeFault s f h := ⟨h.1.takeFault f, h.2.takeFault f⟩
  issueCtx s r k i online free turn h := by
    obtain ⟨queued, -⟩ := h.1.queueOf r i (List.mem_of_getElem? (getElem?_of_nextTurn turn))
    exact ⟨h.1.issueCtx online turn, h.2.issueCtx (h.2.contexts i queued)⟩
  issuePatrol s r pc rest online free ho h := ⟨h.1.issuePatrol pc _ online, h.2.issuePatrol ho⟩
  carryOut s r h := ⟨h.1.carryOut r, h.2.carryOut r⟩
  allocate s i c run admitted region room free h :=
    ⟨h.1.allocate admitted.fresh room (free_of_freeCtx free), h.2.allocate (admitted.inRange h.2.segments)⟩
  cursorSet s j k cu idle isSet clear h := ⟨h.1.setCursor (h.1.idle_of_not_both idle) clear, { h.2 with }⟩
  storeSource s hd i f taken h := ⟨h.1.storeSource taken, { h.2 with }⟩
  storeSegment s i d valid h := ⟨{ h.1 with }, h.2.storeSegment i valid⟩
  storeClock s r g applies h := ⟨h.1.setRegister rfl rfl rfl rfl rfl, h.2.setRegister rfl rfl (.inl rfl) rfl⟩
  storeTiming s r g applies h := ⟨h.1.setRegister rfl rfl rfl rfl rfl, h.2.setRegister rfl rfl (.inl rfl) rfl⟩
  retime s r g online h := ⟨h.1.retime online g, h.2.retime g⟩
  storePatrol s r g valid h := ⟨h.1.storePatrol g, h.2.storePatrol valid⟩
  online s r t live ht h := ⟨h.1.online ht, h.2.online ht⟩
  offline s r t live ht h := ⟨h.1.offline ht, h.2.offline ht⟩
  parkRegion s r t live ht h := ⟨h.1.parkRegion ht, h.2.parkRegion ht⟩
  unpark s r t live ht h := ⟨h.1.unpark ht, h.2.unpark ht⟩
  train s r t live ht h := ⟨h.1.train ht, h.2.train ht⟩
  start s config h := ⟨{ h.1 with }, { h.2 with }⟩
  softReset s live h := ⟨h.1.softReset, h.2.softReset⟩
  clearContainment s contained clean h := ⟨h.1.clearContainment contained False.elim, h.2.clearContainment⟩
  burstMoved s r b taken hb pins h := ⟨(h.1.pool False).burstMoved r b taken, h.2.burstMoved b taken⟩
  contextCompletion s r b i taken ws hb flying owner pins h := by
    obtain ⟨serving, -⟩ := h.1.owner r b i hb flying owner
    exact ⟨((h.1.pool False).burstMoved r b taken).contextCompletion (.inr serving) False.elim b ws,
      (h.2.burstMoved b taken).contextCompletion (h.2.contexts i (.inr serving)) b ws⟩
  patrolCompletion s r b taken words hb flying pins h :=
    ⟨((h.1.pool False).burstMoved r b taken).patrolCompletion r words, (h.2.burstMoved b taken).patrolCompletion words⟩
  timeOut s r b moved hb flying pins state h :=
    ⟨(h.1.pool False).timeOut (fun i owner => (h.1.owner r b i hb flying owner).imp_left .inr) moved,
      h.2.timeOut b moved⟩
  settleExpiry s r settling h :=
    ⟨h.1.setState False.elim rfl rfl rfl False.elim, h.2.setRegister rfl rfl (.inl rfl) rfl⟩
  markDue s r h := ⟨h.1.setRegister rfl rfl rfl rfl rfl, h.2.setRegister rfl rfl (.inl rfl) rfl⟩
  recordSample s r t u holder training h := ⟨(h.1.pool False).recordSample training u, h.2.recordSample u⟩
  failTraining s r t holder training h := ⟨(h.1.pool False).failTraining training, h.2.failTraining⟩

/-- A command on a state whose bursts lie in their regions raises no fault (section 0-4). -/
theorem exec_next {c : Instr} {s : State} (h : ∀ r b, (s.region r).burst = some b → b.inRange = true) :
    ∃ t, exec c s = .next t := by
  cases c with
  | burstCompletion r dev =>
    rw [exec_burstCompletion, execBurstCompletion]
    split
    · exact ⟨_, rfl⟩
    · rename_i b hb
      rw [h r b hb]
      split <;> exact ⟨_, rfl⟩
  | readyTimeout r moved =>
    rw [exec_readyTimeout, execReadyTimeout]
    split
    · exact ⟨_, rfl⟩
    · rename_i b hb
      rw [h r b hb]
      simp only [Bool.true_eq_false, if_false]
      split
      · exact ⟨_, rfl⟩
      · split
        · exact ⟨_, rfl⟩
        · split <;> exact ⟨_, rfl⟩
  | abandonedBurstEnd r release =>
    rw [exec_abandonedBurstEnd, execAbandonedBurstEnd]
    split
    · exact ⟨_, rfl⟩
    · rename_i b hb
      rw [h r b hb]
      simp only [Bool.true_eq_false, if_false]
      split
      · exact ⟨_, rfl⟩
      · split
        · exact ⟨_, rfl⟩
        · split <;> exact ⟨_, rfl⟩
  | _ => exact ⟨_, rfl⟩

/-- Settles O57: every step is made of steps that keep the ranges, and no burst in range raises the fault. -/
theorem rangesKept : Obligations.RangesKept := by
  constructor
  · intro s t pool h ht
    cases hq : s.pending with
    | nil =>
      rw [step_idle hq] at ht
      exact Host.Outcome.next.inj ht ▸ h
    | cons c rest =>
      exact rangeRules.exec (s := { s with pending := rest }) ⟨{ pool with }, { h with }⟩
        (stepRunsFrontCommand c rest s hq ▸ ht)
  · intro s h
    cases hq : s.pending with
    | nil => exact ⟨s, step_idle hq⟩
    | cons c rest =>
      rw [stepRunsFrontCommand c rest s hq]
      exact exec_next h.bursts

/-- Settles O59. -/
theorem resetSatisfiesInvariants : Obligations.ResetSatisfiesInvariants := by
  refine ⟨rfl, containmentInv_reset, poolInv_reset, rangeInv_reset, ?_, rfl⟩
  intro p
  cases p <;> decide

end Sys2Proof.Machine

/-!
Links, responses and the acceptance checks (R2, R14 to R24, R147 to R153): each statement reads off which branch of an operation
its hypotheses select.
-/

namespace Sys2Proof.Machine

/-! ## Links -/

theorem goodFrame_iff (ws : List Word) (ragged : Bool) : goodFrame ws ragged = true ↔
    ragged = false ∧ 3 ≤ ws.length ∧ ws.length ≤ 70 ∧ (ws.headD 0).toNat % 128 = ws.length ∧
      (ws.getLastD 0).setWidth 16 = crc ws.dropLast := by
  simp [goodFrame, declaredLength, field, and_assoc]

/-- Settles O3: the four cases are the branches of `State.arrive`. -/
theorem frameArrivalOutcome : Obligations.FrameArrivalOutcome := by
  refine ⟨goodFrame_iff, fun p ws ragged s => ⟨fun off => ?_, fun on bad room => ?_, fun on bad full => ?_,
    fun on good full => ?_, fun on good room => ?_⟩⟩
  all_goals rw [exec_frameArrival, execFrameArrival, State.arrive]
  · simp [off]
  · simp [on, bad, Config.ingressDepth, room]
  · simp [on, bad, Config.ingressDepth, Nat.not_lt.mpr full]
  · simp [on, good, Config.ingressDepth, full]
  · simp [on, good, Config.ingressDepth, Nat.not_le.mpr room]

theorem trySend_head {x : PortState} {f : List Word} {rest : List (List Word)} (hx : x.egress = f :: rest)
    (on : x.txOn = true) (idle : x.sending = none) (credit : 0 < x.txCredits) :
    x.trySend = { x with egress := rest, sending := some (withCheck f), txCredits := x.txCredits - 1 } := by
  unfold PortState.trySend
  simp [hx, on, idle, credit]

theorem trySend_held {x : PortState} (h : x.egress = [] ∨ x.txOn = false ∨ x.sending ≠ none ∨ x.txCredits = 0) :
    x.trySend = x := by
  unfold PortState.trySend
  split
  · rfl
  · rename_i f rest hx
    rw [if_neg]
    obtain h | h | h | h := h
    · simp [hx] at h
    · simp [h]
    · simp [Option.isNone_iff_eq_none, h]
    · simp [h]

/-- Settles O4. -/
theorem creditsAndSending : Obligations.CreditsAndSending := by
  refine ⟨fun _ _ => rfl, fun _ _ _ => rfl, fun p f s sending => ?_, fun x f rest => trySend_head, fun x => trySend_held⟩
  rw [exec_frameSent, execFrameSent, if_pos (by simp [sending])]

/-! ## Responses -/

section
variable (s : State) (p : Port) (h : Hdr) (code : Nat) (st : Status) (ws : List Word)

theorem respond_discarded (off : (s.port p).txOn = false) : s.respond p h code st ws = s := by
  simp [State.respond, off]

theorem respond_of_room (on : (s.port p).txOn = true) (room : (s.port p).egress.length < 16) :
    s.respond p h code st ws =
      if s.egressFaults then s.faultAt .egress (.egress p none) else s.join p (responseFrame code h st ws) := by
  have free : 0 < (s.port p).freeSlots := by
    unfold PortState.freeSlots Config.egressDepth
    omega
  simp [State.respond, on, free]

end

/-- Settles O6. -/
theorem responseJoinsEgress : Obligations.ResponseJoinsEgress := by
  refine ⟨fun _ _ _ _ => rfl, by decide, fun s p h code st ws => ⟨respond_discarded s p h code st ws, ?_, ?_⟩⟩
  · intro on room noFault
    rw [respond_of_room s p h code st ws on room, noFault]
    rfl
  · intro on room fault
    rw [respond_of_room s p h code st ws on room, if_pos fault]

/-! ## Admission -/

/-- Checks 2 to 4 of a decoded frame, DATA or MANAGEMENT. -/
def State.acceptChecked (s : State) (q : Request) (body : State → State) : State :=
  if q.data then s.acceptData q.port q.hdr q.code body else s.acceptManage q.port q.hdr q.code body

/-- The acceptance of a request is its checks and a body that depends on its operands. -/
theorem exec_request {c : Instr} {q : Request} (hc : c.request = some q) :
    ∃ body, ∀ s, exec c s = .next (s.accept c q.port fun s => s.acceptChecked q body) := by
  cases c <;> cases hc <;> exact ⟨_, fun _ => rfl⟩

/-- A management frame whose action no row names passes the same checks (log entry 6). -/
theorem exec_unlisted {p : Port} {ws : List Word} (cls : frameClass (ws.headD 0) = 1)
    (unlisted : unlistedAction (frameCode (ws.headD 0)) (frameBody ws) = true) (s : State) :
    exec (.undecodableFrame p ws) s = .next (s.accept (.undecodableFrame p ws) p fun s =>
      s.acceptManage p (frameHdr (ws.headD 0)) (frameCode (ws.headD 0)) fun s =>
        s.respond p (frameHdr (ws.headD 0)) (frameCode (ws.headD 0)) .badValue []) := by
  rw [exec_undecodableFrame, execUndecodableFrame]
  simp only [cls, unlisted, beq_self_eq_true, Bool.and_self, if_true]

section
variable (s : State) (q : Request) (body : State → State)

theorem acceptChecked_fault (fault : s.sourceFaults q.hdr.src = true) :
    s.acceptChecked q body =
      (s.faultAt .table (.source q.hdr.src)).respond q.port q.hdr q.code .contained [] := by
  simp [State.acceptChecked, State.acceptData, State.acceptManage, fault]

theorem acceptChecked_refused {st : Status} (noFault : s.sourceFaults q.hdr.src = false)
    (refused : s.checkSource q.port q.hdr = some st) :
    s.acceptChecked q body = s.respond q.port q.hdr q.code st [] := by
  simp [State.acceptChecked, State.acceptData, State.acceptManage, noFault, refused]

theorem acceptChecked_mode {st : Status} (noFault : s.sourceFaults q.hdr.src = false)
    (passed : s.checkSource q.port q.hdr = none) (data : q.data = true) (mode : s.checkMode = some st) :
    s.acceptChecked q body = s.respond q.port q.hdr q.code st [] := by
  simp [State.acceptChecked, State.acceptData, noFault, passed, data, mode]

theorem acceptChecked_notManager (noFault : s.sourceFaults q.hdr.src = false)
    (passed : s.checkSource q.port q.hdr = none) (data : q.data = false)
    (notManager : (s.source q.hdr.src).manager = false) :
    s.acceptChecked q body = s.respond q.port q.hdr q.code .notManager [] := by
  simp [State.acceptChecked, State.acceptManage, noFault, passed, data, notManager]

end

theorem checkSource_passed {s : State} {p : Port} {h : Hdr} (valid : (s.source h.src).valid = true)
    (bound : (s.source h.src).port = p) : s.checkSource p h = none := by
  simp [State.checkSource, valid, bound]

/-- Settles O8: every request meets the checks of `State.acceptChecked`, and each refusal is one of them. -/
theorem admissionChecksRefuse : Obligations.AdmissionChecksRefuse := by
  intro c q s request next
  obtain ⟨body, hb⟩ : ∃ body, exec c s = .next (s.accept c q.port fun s => s.acceptChecked q body) := by
    obtain request | ⟨ws, rfl, cls, unlisted, hq⟩ := request
    · obtain ⟨body, hb⟩ := exec_request request
      exact ⟨body, hb s⟩
    · obtain ⟨p, hdr, code, data⟩ := q
      simp only [Request.mk.injEq, true_and] at hq
      obtain ⟨rfl, rfl, rfl⟩ := hq
      exact ⟨_, exec_unlisted cls unlisted s⟩
  rw [hb, accept_next _ _ next]
  have passed (from' : s.fromSource c q.port q.hdr) : (s.takeFrame q.port).sourceFaults q.hdr.src = false ∧
      (s.takeFrame q.port).checkSource q.port q.hdr = none := by
    obtain ⟨-, noFault, valid, bound⟩ := from'
    rw [takeFrame_sourceFaults, takeFrame_checkSource]
    exact ⟨noFault, checkSource_passed valid bound⟩
  refine ⟨fun fault => ?_, fun noFault invalid => ?_, fun noFault valid other => ?_, fun from' data mode => ?_,
    fun from' data mode => ?_, fun from' data notManager => ?_⟩
  · rw [acceptChecked_fault _ _ _ (by rwa [takeFrame_sourceFaults])]
  · rw [acceptChecked_refused _ _ _ (by rwa [takeFrame_sourceFaults])
      (show _ = some Status.noSource by rw [takeFrame_checkSource, State.checkSource, if_pos invalid])]
  · rw [acceptChecked_refused _ _ _ (by rwa [takeFrame_sourceFaults])
      (show _ = some Status.sourceMismatch by
        rw [takeFrame_checkSource, State.checkSource, if_neg (by simp [valid]), if_pos other])]
  · rw [acceptChecked_mode _ _ _ (passed from').1 (passed from').2 data
      (show _ = some Status.notStarted by rw [State.checkMode, takeFrame_mode, mode])]
  · rw [acceptChecked_mode _ _ _ (passed from').1 (passed from').2 data
      (show _ = some Status.contained by rw [State.checkMode, takeFrame_mode, mode])]
  · rw [acceptChecked_notManager _ _ _ (passed from').1 (passed from').2 data (by rwa [takeFrame_source])]

end Sys2Proof.Machine

namespace Sys2Proof.Machine

/-! ## Translation -/

section
variable {d : Descriptor} {k : ReqKind} (ring : Ring) (f n : Nat)

theorem translateRequest_kindMismatch (present : d.kind ≠ .absent) (h : kindAllowed k d.kind = false) :
    translateRequest d k ring f n = some .kindMismatch := by
  rw [translateRequest, if_neg present, if_pos h]

/-- On an INDIRECT segment the read bracket alone decides (R43). -/
theorem translateRequest_indirect (hd : d.kind = .indirect) (h : kindAllowed k d.kind = true) :
    translateRequest d k ring f n = if ring.val ≤ d.readBracket.val then none else some .ringDenied := by
  rw [translateRequest, if_neg (by simp [hd]), if_neg (by simp [h]), if_pos hd]
  simp [within]

/-- On a segment that holds words the bounds come before the ring (R14). -/
theorem translateRequest_words (hd : d.kind = .direct ∨ d.kind = .journal) (h : kindAllowed k d.kind = true) :
    translateRequest d k ring f n =
      if d.inside k f n = true then if d.admits k ring = true then none else some .ringDenied else some .bounds := by
  rw [translateRequest, if_neg (by obtain e | e := hd <;> simp [e]), if_neg (by simp [h]),
    if_neg (by obtain e | e := hd <;> simp [e])]
  cases d.inside k f n <;> cases d.admits k ring <;> rfl

end

/-- The same with the failing bounds test first, and the tests as propositions. -/
theorem translateRequest_eq_ite {d : Descriptor} {k : ReqKind} {ring : Ring} {f n : Nat} {outside admitted : Prop}
    [Decidable outside] [Decidable admitted] (hd : d.kind = .direct ∨ d.kind = .journal)
    (h : kindAllowed k d.kind = true) (ho : d.inside k f n = true ↔ ¬outside) (ha : d.admits k ring = true ↔ admitted) :
    translateRequest d k ring f n =
      if outside then some .bounds else if admitted then none else some .ringDenied := by
  rw [translateRequest_words ring f n hd h]
  by_cases o : outside
  · rw [if_neg fun hi => ho.mp hi o, if_pos o]
  · simp only [ho.mpr o, if_true, if_neg o, ha]

/-- Settles O9: each clause is the kind test, the INDIRECT case or the bounds and the ring in order. -/
theorem translationTestsInOrder : Obligations.TranslationTestsInOrder := by
  intro d k ring f n
  refine ⟨fun absent => ?_, fun direct kind => ?_, fun indirect nr nw nc => ?_, fun journal nr na nj => ?_,
    fun indirect kind => ?_, fun words linear => ?_, fun words block pos => ?_, fun direct => ?_, fun direct => ?_,
    fun journal => ?_, fun journal => ?_, fun direct => ?_, fun direct => ?_⟩
  · rw [translateRequest, if_pos absent]
  · refine translateRequest_kindMismatch ring f n (by simp [direct]) ?_
    obtain rfl | rfl := kind <;> rw [direct] <;> rfl
  · refine translateRequest_kindMismatch ring f n (by simp [indirect]) ?_
    rw [indirect]
    cases k <;> first | rfl | contradiction
  · refine translateRequest_kindMismatch ring f n (by simp [journal]) ?_
    rw [journal]
    cases k <;> first | rfl | contradiction
  · refine translateRequest_indirect ring f n indirect ?_
    rw [indirect]
    obtain rfl | rfl | rfl := kind <;> rfl
  · refine translateRequest_eq_ite words (by obtain e | e := words <;> rw [e] <;> rfl) ?_ (by
      simp [Descriptor.admits, within])
    have unwrapped : d.wraps n = false := by simpa [Descriptor.wraps] using linear
    rw [Descriptor.inside, Descriptor.readInside_iff]
    simp [unwrapped]
  · refine translateRequest_eq_ite words (by obtain e | e := words <;> rw [e] <;> rfl) ?_ (by
      simp [Descriptor.admits, within])
    have wrapped : d.wraps n = true := by simp [Descriptor.wraps, block, pos]
    rw [Descriptor.inside, Descriptor.readInside_iff]
    simp only [wrapped, blockBase, forall_const]
    omega
  · refine translateRequest_eq_ite (.inl direct) (by rw [direct]; rfl) ?_ (by simp [Descriptor.admits, within])
    simp [Descriptor.inside]
  · refine translateRequest_eq_ite (.inl direct) (by rw [direct]; rfl) ?_ (by simp [Descriptor.admits, within])
    simp [Descriptor.inside]
  · rw [translateRequest_words ring f n (.inr journal) (by rw [journal]; rfl)]
    simp [Descriptor.inside, Descriptor.admits, within]
  · refine translateRequest_eq_ite (.inr journal) (by rw [journal]; rfl) ?_ (by simp [Descriptor.admits, within])
    simp only [Descriptor.inside, Bool.and_eq_true, decide_eq_true_eq]
    omega
  · refine translateRequest_eq_ite (.inl direct) (by rw [direct]; rfl) ?_ (by simp [Descriptor.admits, within])
    simp [Descriptor.inside]
  · refine translateRequest_eq_ite (.inl direct) (by rw [direct]; rfl) ?_ (by simp [Descriptor.admits, within])
    simp [Descriptor.inside]

/-! ## Segment requests -/

/-- The acceptance of a request that names a segment: checks 1 to 4, the segment, and admission with its context. -/
theorem exec_segmentRequest {c : Instr} {q : Request} {x : SegmentRequest} (hc : c.request = some q)
    (hx : segmentRequest c = some x) (s : State) :
    exec c s = .next (s.accept c q.port fun s => s.acceptData q.port q.hdr q.code fun s =>
      s.onSegment q.port q.hdr q.code x.seg x.kind (weaker (s.source q.hdr.src).ring x.ring) x.offset x.length
        fun d s => s.admission q.port q.hdr q.code (x.context q d (weaker (s.source q.hdr.src).ring x.ring))) := by
  cases c <;> cases hx <;> cases hc <;> rfl

theorem onSegment_fault {s : State} (p : Port) (h : Hdr) (code : Nat) {seg : SegNo} (k : ReqKind) (ring : Ring) (f n : Nat)
    (body : Descriptor → State → State) (fault : s.segmentFaults seg = true) :
    s.onSegment p h code seg k ring f n body = (s.faultAt .table (.segment seg)).respond p h code .contained [] := by
  rw [State.onSegment, if_pos fault]

theorem onSegment_refused {s : State} {p : Port} {h : Hdr} {code : Nat} {seg : SegNo} {k : ReqKind} {ring : Ring}
    {f n : Nat} {body : Descriptor → State → State} {st : Status} (noFault : s.segmentFaults seg = false)
    (refused : translateRequest (s.segment seg) k ring f n = some st) :
    s.onSegment p h code seg k ring f n body = s.respond p h code st [] := by
  rw [State.onSegment, if_neg (by simp [noFault]), refused]

theorem onSegment_passed {s : State} {p : Port} {h : Hdr} {code : Nat} {seg : SegNo} {k : ReqKind} {ring : Ring}
    {f n : Nat} {body : Descriptor → State → State} (noFault : s.segmentFaults seg = false)
    (passed : translateRequest (s.segment seg) k ring f n = none) :
    s.onSegment p h code seg k ring f n body = body (s.segment seg) s := by
  rw [State.onSegment, if_neg (by simp [noFault]), passed]

/-- Settles O10. -/
theorem translationRefusesAtAcceptance : Obligations.TranslationRefusesAtAcceptance := by
  intro c q x s hc hx passed
  rw [exec_segmentRequest hc hx, accept_passed passed]
  refine ⟨fun fault => ?_, fun st noFault refused => ?_⟩
  · rw [onSegment_fault _ _ _ _ _ _ _ _ (by rwa [takeFrame_segmentFaults])]
  · rw [onSegment_refused (by rwa [takeFrame_segmentFaults])
      (by rwa [takeFrame_segment, takeFrame_source, ← State.effectiveRing])]

theorem admitsContexts_iff (x : RegionState) : x.admitsContexts = true ↔ x ≠ .offline ∧ x ≠ .training := by
  cases x <;> simp [RegionState.admitsContexts]

theorem admitsContexts_eq_false_iff (x : RegionState) : x.admitsContexts = false ↔ x = .offline ∨ x = .training := by
  cases x <;> simp [RegionState.admitsContexts]

theorem SegmentRequest.context_region (x : SegmentRequest) (q : Request) (d : Descriptor) (eff : Ring) :
    (x.context q d eff).region = d.region := by
  unfold SegmentRequest.context accessContext
  dsimp only
  split
  · rfl
  · split <;> rfl

section
variable {s : State} {p : Port} {h : Hdr} {code : Nat} {c : Context}

theorem admission_regionOffline (closed : (s.region c.region).state.admitsContexts = false) :
    s.admission p h code c = s.respond p h code .regionOffline [] := by
  rw [State.admission, if_pos closed]

theorem admission_busy (isOpen : (s.region c.region).state.admitsContexts = true)
    (limit : (s.source h.src).limit ≤ s.count h.src) : s.admission p h code c = s.respond p h code .busy [] := by
  rw [State.admission, if_neg (by simp [isOpen]), if_pos limit]

theorem freeCtx_eq_none_iff : s.freeCtx = none ↔ ∀ i, (s.ctx i).state ≠ .free := by
  simp [State.freeCtx, List.find?_eq_none, List.mem_finRange]

theorem admission_noContext (isOpen : (s.region c.region).state.admitsContexts = true)
    (room : s.count h.src < (s.source h.src).limit) (full : ∀ i, (s.ctx i).state ≠ .free) :
    s.admission p h code c = s.respond p h code .noContext [] := by
  rw [State.admission, if_neg (by simp [isOpen]), if_neg (by omega), freeCtx_eq_none_iff.mpr full]

theorem admission_given {i : CtxId} (room : s.hasRoom h.src c.region i) :
    s.admission p h code c = (s.allocate i c).takeTurn c.region := by
  obtain ⟨isOpen, limit, free⟩ := room
  rw [State.admission, if_neg (by simp [isOpen]), if_neg (by omega), free]

end

theorem hasRoom_takeFrame {s : State} {p : Port} {src : SourceId} {r : RegionId} {i : CtxId} :
    (s.takeFrame p).hasRoom src r i ↔ s.hasRoom src r i := by
  rw [State.hasRoom, State.hasRoom, takeFrame_region, takeFrame_count, takeFrame_source, takeFrame_freeCtx]

/-- A segment request that passes checks 1 to 6 comes to its admission. -/
theorem exec_translates {c : Instr} {q : Request} {x : SegmentRequest} {s : State} (hc : c.request = some q)
    (hx : segmentRequest c = some x) (h : s.translates c q x) :
    exec c s = .next ((s.takeFrame q.port).admission q.port q.hdr q.code
      (x.context q (s.segment x.seg) (s.effectiveRing q.hdr x.ring))).finish := by
  obtain ⟨passed, noFault, translated⟩ := h
  rw [exec_segmentRequest hc hx, accept_passed passed, onSegment_passed (by rwa [takeFrame_segmentFaults])
    (by rwa [takeFrame_segment, takeFrame_source, ← State.effectiveRing]), takeFrame_segment, takeFrame_source]
  rfl

/-- Settles O11. -/
theorem roomChecksRefuse : Obligations.RoomChecksRefuse := by
  intro c q x s hc hx translates
  have region : (x.context q (s.segment x.seg) (s.effectiveRing q.hdr x.ring)).region = (s.segment x.seg).region :=
    x.context_region ..
  rw [exec_translates hc hx translates]
  refine ⟨fun closed => ?_, fun no nt limit => ?_, fun no nt room full => ?_⟩
  · rw [admission_regionOffline (by rw [takeFrame_region, region]; exact (admitsContexts_eq_false_iff _).mpr closed)]
  · rw [admission_busy (by rw [takeFrame_region, region]; exact (admitsContexts_iff _).mpr ⟨no, nt⟩)
      (by rwa [takeFrame_source, takeFrame_count])]
  · rw [admission_noContext (by rw [takeFrame_region, region]; exact (admitsContexts_iff _).mpr ⟨no, nt⟩)
      (by rwa [takeFrame_source, takeFrame_count]) (by simpa only [takeFrame_ctx] using full)]

theorem freeCtx_lowest {s : State} {i : CtxId} (h : s.freeCtx = some i) (j : CtxId) (hj : j.val < i.val) :
    (s.ctx j).state ≠ .free := by
  obtain ⟨-, as, bs, hl, before⟩ := List.find?_eq_some_iff_append.mp h
  have sorted : (as ++ i :: bs).Pairwise (· < ·) := hl ▸ List.pairwise_lt_finRange 32
  have mem : j ∈ as ++ i :: bs := hl ▸ List.mem_finRange j
  obtain hm | hm := List.mem_append.mp mem
  · simpa using before j hm
  · obtain rfl | hm := List.mem_cons.mp hm
    · exact absurd hj (lt_irrefl _)
    · have later : i < j := (List.pairwise_cons.mp (List.pairwise_append.mp sorted).2.1).1 j hm
      exact absurd hj (Nat.lt_asymm later)

/-- Settles O12. -/
theorem segmentRequestGetsContext : Obligations.SegmentRequestGetsContext := by
  refine ⟨fun c q x i s hc hx translates room => ⟨free_of_freeCtx room.2.2, freeCtx_lowest room.2.2, ?_⟩,
    fun s i c => ⟨fun cursor => ?_, fun cursor => ?_⟩⟩
  · have region : (x.context q (s.segment x.seg) (s.effectiveRing q.hdr x.ring)).region = (s.segment x.seg).region :=
      x.context_region ..
    rw [exec_translates hc hx translates, admission_given (i := i) (by rwa [hasRoom_takeFrame, region]), region]
  · rw [allocate_eq, if_neg (by simp [cursor])]
    rfl
  · rw [allocate_eq, if_pos cursor]
    rfl

/-- Settles O13. -/
theorem newContextFields : Obligations.NewContextFields := by
  refine ⟨fun p h k d eff ring f n pl => ?_, fun p h k d eff ring f pl => ?_⟩
  · dsimp only
    unfold accessContext
    dsimp only
    refine ⟨?_, fun indirect => ?_, fun other => ?_⟩
    · split <;> exact ⟨rfl, rfl, rfl, rfl, rfl, rfl, rfl, rfl, rfl, rfl, rfl, rfl⟩
    · rw [if_pos indirect]
      exact ⟨rfl, rfl, rfl, rfl, rfl, rfl, rfl, rfl, rfl⟩
    · rw [if_neg other]
      refine ⟨rfl, rfl, ?_, ?_, ?_, ?_⟩
      · rintro rfl linear
        have unwrapped : d.wraps n = false := by simpa [Descriptor.wraps] using linear
        simp [Context.resolve, newContext, wrapOf, unwrapped]
      · rintro rfl rfl pos
        have wrapped : d.wraps d.block = true := by simp [Descriptor.wraps, pos]
        simp [Context.resolve, newContext, wrapOf, wrapped, blockBase]
      · rintro rfl
        exact ⟨rfl, rfl, rfl, rfl⟩
      · rintro rfl
        exact ⟨rfl, rfl, rfl, rfl⟩
  · refine ⟨rfl, rfl, rfl, rfl, rfl, rfl, rfl, rfl, rfl, rfl, rfl, rfl, rfl, rfl, rfl, ?_, ?_⟩
    · rintro rfl
      exact ⟨rfl, rfl⟩
    · rintro rfl
      exact ⟨rfl, rfl, rfl⟩

end Sys2Proof.Machine

/-!
Cursors at their acceptance (R125 to R128): CURSOR_SET and the two steps meet the branches of their acceptance in the order of
Table 9-2, and a step that passes them is given the context of its rounded item.
-/

namespace Sys2Proof.Machine

/-! ## CURSOR_SET -/

section
variable {d : Descriptor}

theorem cursorSetRefusal_absent (pos : Nat) (hd : d.kind = .absent) : d.cursorSetRefusal pos = some .noSegment := by
  rw [Descriptor.cursorSetRefusal, if_pos hd]

theorem cursorSetRefusal_kindMismatch (pos : Nat) (hd : d.kind = .indirect ∨ d.kind = .journal) :
    d.cursorSetRefusal pos = some .kindMismatch := by
  obtain hd | hd := hd <;> simp [Descriptor.cursorSetRefusal, hd]

theorem cursorSetRefusal_direct (pos : Nat) (hd : d.kind = .direct) :
    d.cursorSetRefusal pos = if d.limit * 4 ≤ pos then some .bounds else none := by
  simp [Descriptor.cursorSetRefusal, hd]

end

section
variable {s : State} {p : Port} {h : Hdr} {cur : Fin 2} {seg : SegNo} {ring : Ring} {pos count size : Nat}

/-- A CURSOR_SET that finds no cursor in flight and no TABLE fault is refused by its segment's tests. -/
theorem exec_cursorSet_refused {st : Status} (passed : s.passesData (.cursorSet p h cur seg ring pos count size) p h)
    (still : ¬((s.cursor h.src cur).isSet = true ∧ (s.cursor h.src cur).inFlight = true))
    (noFault : s.segmentFaults seg = false) (refused : (s.segment seg).cursorSetRefusal pos = some st) :
    exec (.cursorSet p h cur seg ring pos count size) s = .next ((s.takeFrame p).respond p h 8 st []).finish := by
  rw [exec_cursorSet, execCursorSet, accept_passed passed, if_neg (by simpa [takeFrame_cursor] using still), if_neg (by simp [noFault]),
    takeFrame_segment, refused]

/-- Settles O14. -/
theorem cursorSetTakenOrRefused : Obligations.CursorSetTakenOrRefused := by
  intro p h cur seg ring pos count size s
  dsimp only
  intro passed
  refine ⟨fun busy => ?_, fun still fault => ?_, fun still noFault absent => ?_, fun still noFault other => ?_,
    fun still noFault direct outside => ?_, fun still noFault direct inside => ?_⟩
  · rw [exec_cursorSet, execCursorSet, accept_passed passed, if_pos (by simpa [takeFrame_cursor] using busy)]
  · rw [exec_cursorSet, execCursorSet, accept_passed passed, if_neg (by simpa [takeFrame_cursor] using still), if_pos (by simp [fault])]
  · exact exec_cursorSet_refused passed still noFault (cursorSetRefusal_absent pos absent)
  · exact exec_cursorSet_refused passed still noFault (cursorSetRefusal_kindMismatch pos other)
  · exact exec_cursorSet_refused passed still noFault (by rw [cursorSetRefusal_direct pos direct, if_pos outside])
  · rw [exec_cursorSet, execCursorSet, accept_passed passed, if_neg (by simpa [takeFrame_cursor] using still), if_neg (by simp [noFault]),
      takeFrame_segment, cursorSetRefusal_direct pos direct, if_neg (by omega), takeFrame_source]
    rfl

end

/-! ## The steps -/

/-- Command `c` is the step of kind `k` on a cursor, with the words `pl` it writes. -/
def IsStep (c : Instr) (p : Port) (h : Hdr) (cur : Fin 2) (k : ReqKind) (pl : List Word) : Prop :=
  (c = .cursorRead p h cur ∧ k = .cursorRead ∧ pl = []) ∨
    ∃ lo hi, c = .cursorWrite p h cur lo hi ∧ k = .cursorWrite ∧ pl = [lo, hi]

/-- The bracket that a step's captured ring meets. -/
def Descriptor.stepBracket (d : Descriptor) (k : ReqKind) : Nat :=
  if k = .cursorRead then d.readBracket.val else d.writeBracket.val

section
variable {c : Instr} {p : Port} {h : Hdr} {cur : Fin 2} {k : ReqKind} {pl : List Word}

theorem IsStep.exec_eq (step : IsStep c p h cur k pl) (s : State) :
    exec c s = .next (s.accept c p fun s => s.acceptCursorStep p h k cur pl) := by
  obtain ⟨rfl, rfl, rfl⟩ | ⟨lo, hi, rfl, rfl, rfl⟩ := step <;> rfl

theorem IsStep.kind (step : IsStep c p h cur k pl) : k = .cursorRead ∨ k = .cursorWrite := by
  obtain ⟨-, hk, -⟩ | ⟨-, -, -, hk, -⟩ := step
  · exact .inl hk
  · exact .inr hk

theorem IsStep.refused {s : State} {st : Status} {ws : List Word} (step : IsStep c p h cur k pl)
    (passed : s.passesData c p h) (refused : (s.cursor h.src cur).stepRefusal = some (st, ws)) :
    exec c s = .next ((s.takeFrame p).respond p h k.code st ws).finish := by
  simp only [step.exec_eq, State.acceptCursorStep]
  rw [accept_passed passed, takeFrame_cursor, refused]

/-- A step that passes check 5 meets check 6 on its rounded item. -/
theorem IsStep.goesOn {s : State} (step : IsStep c p h cur k pl) (passed : s.passesData c p h)
    (ready : (s.cursor h.src cur).stepRefusal = none) :
    exec c s = .next ((s.takeFrame p).onSegment p h k.code (s.cursor h.src cur).segment k (s.cursor h.src cur).ring
      (roundedPos (s.cursor h.src cur).pos (s.cursor h.src cur).size) (s.cursor h.src cur).size fun d t =>
        t.admission p h k.code (cursorContext p h k d cur (s.cursor h.src cur) pl)).finish := by
  simp only [step.exec_eq, State.acceptCursorStep]
  rw [accept_passed passed, takeFrame_cursor, ready]

end

section
variable {d : Descriptor} {k : ReqKind} (ring : Ring) (f n : Nat)

theorem translateRequest_step (hk : k = .cursorRead ∨ k = .cursorWrite) (direct : d.kind = .direct) :
    translateRequest d k ring f n =
      if d.limit * 4 < f + n then some .bounds
      else if ring.val ≤ d.stepBracket k then none else some .ringDenied := by
  obtain ⟨-, -, -, -, -, -, -, -, -, -, -, onRead, onWrite⟩ := translationTestsInOrder d k ring f n
  obtain rfl | rfl := hk
  · exact onRead direct
  · exact onWrite direct

theorem translateRequest_step_kindMismatch (hk : k = .cursorRead ∨ k = .cursorWrite)
    (other : d.kind = .indirect ∨ d.kind = .journal) : translateRequest d k ring f n = some .kindMismatch := by
  refine translateRequest_kindMismatch ring f n ?_ ?_
  · obtain hd | hd := other <;> simp [hd]
  · obtain rfl | rfl := hk <;> obtain hd | hd := other <;> rw [hd] <;> rfl

end

/-- A step that passes check 5, on a segment that takes its rounded item, comes to its admission. -/
theorem IsStep.admission {c : Instr} {p : Port} {h : Hdr} {cur : Fin 2} {k : ReqKind} {pl : List Word} {s : State}
    {cu : Cursor} (step : IsStep c p h cur k pl) (passed : s.passesData c p h) (hc : s.cursor h.src cur = cu)
    (ready : cu.stepRefusal = none) (noFault : s.segmentFaults cu.segment = false)
    (direct : (s.segment cu.segment).kind = .direct)
    (inside : cu.pos - cu.pos % cu.size + cu.size ≤ (s.segment cu.segment).limit * 4)
    (ring : cu.ring.val ≤ (s.segment cu.segment).stepBracket k) :
    exec c s = .next ((s.takeFrame p).admission p h k.code
      (cursorContext p h k (s.segment cu.segment) cur cu pl)).finish := by
  subst hc
  rw [step.goesOn passed ready, onSegment_passed (by rwa [takeFrame_segmentFaults]), takeFrame_segment]
  rw [takeFrame_segment, translateRequest_step _ _ _ step.kind direct, roundedPos, if_neg (by omega), if_pos ring]

theorem stepRefusal_unset {cu : Cursor} (unset : cu.isSet = false) : cu.stepRefusal = some (.cursorUnset, []) := by
  rw [Cursor.stepRefusal, if_pos unset]

theorem stepRefusal_busy {cu : Cursor} (isSet : cu.isSet = true) (busy : cu.inFlight = true) :
    cu.stepRefusal = some (.cursorBusy, []) := by
  rw [Cursor.stepRefusal, if_neg (by simp [isSet]), if_pos busy]

theorem stepRefusal_exhausted {cu : Cursor} (isSet : cu.isSet = true) (still : cu.inFlight = false) (used : cu.count = 0) :
    cu.stepRefusal = some (.exhausted, [word cu.pos, word 0]) := by
  rw [Cursor.stepRefusal, if_neg (by simp [isSet]), if_neg (by simp [still]), if_pos used, used]

theorem stepRefusal_none {cu : Cursor} (isSet : cu.isSet = true) (still : cu.inFlight = false) (left : 0 < cu.count) :
    cu.stepRefusal = none :=
  (stepRefusal_eq_none_iff cu).mpr ⟨isSet, still, left.ne'⟩

/-- Settles O15: the refusals are the branches of `IsStep.refused`, of the segment's tests and of the admission, in order. -/
theorem cursorStepTakenOrRefused : Obligations.CursorStepTakenOrRefused := by
  refine ⟨fun c p h cur code s hc passed => ?_, fun c k p h cur pl i s step passed => ?_⟩
  · obtain ⟨k, pl, step, rfl, hb⟩ : ∃ k pl, IsStep c p h cur k pl ∧ k.code = code ∧ (code = 9 ↔ k = .cursorRead) := by
      obtain ⟨rfl, rfl⟩ | ⟨lo, hi, rfl, rfl⟩ := hc
      · exact ⟨.cursorRead, [], .inl ⟨rfl, rfl, rfl⟩, rfl, by simp⟩
      · exact ⟨.cursorWrite, [lo, hi], .inr ⟨lo, hi, rfl, rfl, rfl⟩, rfl, by simp⟩
    dsimp only
    refine ⟨fun unset => step.refused passed (stepRefusal_unset unset),
      fun isSet busy => step.refused passed (stepRefusal_busy isSet busy),
      fun isSet still used => step.refused passed (stepRefusal_exhausted isSet still used), fun isSet still left => ?_⟩
    have ready := stepRefusal_none isSet still left
    have bracket : (if k.code = 9 then (s.segment (s.cursor h.src cur).segment).readBracket.val
        else (s.segment (s.cursor h.src cur).segment).writeBracket.val) =
        (s.segment (s.cursor h.src cur).segment).stepBracket k := by
      simp only [hb, Descriptor.stepBracket]
    rw [bracket]
    have refused {st : Status} (noFault : s.segmentFaults (s.cursor h.src cur).segment = false)
        (ht : translateRequest (s.segment (s.cursor h.src cur).segment) k (s.cursor h.src cur).ring
          (roundedPos (s.cursor h.src cur).pos (s.cursor h.src cur).size) (s.cursor h.src cur).size = some st) :
        exec c s = .next ((s.takeFrame p).respond p h k.code st []).finish := by
      rw [step.goesOn passed ready, onSegment_refused (by rwa [takeFrame_segmentFaults]) (by rwa [takeFrame_segment])]
    refine ⟨fun fault => ?_, fun noFault absent => refused noFault ?_, fun noFault other => refused noFault ?_,
      fun noFault direct outside => refused noFault ?_, fun noFault direct inside ring => refused noFault ?_,
      fun ⟨noFault, direct, inside, ring⟩ closed => ?_, fun ⟨noFault, direct, inside, ring⟩ ⟨no, nt⟩ limit => ?_,
      fun ⟨noFault, direct, inside, ring⟩ ⟨no, nt⟩ room full => ?_⟩
    · rw [step.goesOn passed ready, onSegment_fault _ _ _ _ _ _ _ _ (by rwa [takeFrame_segmentFaults])]
    · rw [translateRequest, if_pos absent]
    · exact translateRequest_step_kindMismatch _ _ _ step.kind other
    · rw [translateRequest_step _ _ _ step.kind direct, roundedPos, if_pos outside]
    · rw [translateRequest_step _ _ _ step.kind direct, roundedPos, if_neg (by omega), if_neg (by omega)]
    · rw [step.admission passed rfl ready noFault direct inside ring, admission_regionOffline]
      rw [takeFrame_region, admitsContexts_eq_false_iff]
      exact (not_and_or.mp closed).imp not_not.mp not_not.mp
    · rw [step.admission passed rfl ready noFault direct inside ring,
        admission_busy (by rw [takeFrame_region]; exact (admitsContexts_iff _).mpr ⟨no, nt⟩)
          (by rwa [takeFrame_source, takeFrame_count])]
    · rw [step.admission passed rfl ready noFault direct inside ring,
        admission_noContext (by rw [takeFrame_region]; exact (admitsContexts_iff _).mpr ⟨no, nt⟩)
          (by rwa [takeFrame_source, takeFrame_count]) (by simpa only [takeFrame_ctx] using full)]
  · intro cu d q isSet still left noFault direct inside ring room
    rw [IsStep.admission step passed rfl (stepRefusal_none isSet still left) noFault direct inside ring,
      admission_given (i := i) (hasRoom_takeFrame.mpr room)]
    rfl

/-- Settles O16. -/
theorem cursorQueryAnswered : Obligations.CursorQueryAnswered := by
  intro p h cur s passed
  dsimp only
  rw [exec_cursorQuery, execCursorQuery, accept_passed passed, takeFrame_cursor]
  rfl

end Sys2Proof.Machine

/-!
The management of the tables (R3 to R11): an index in range selects its entry, the checks of the operands are the ranges that
Tables 1-1 and 1-2 name, and each command is one branch of its body on the state with its frame taken.
-/

namespace Sys2Proof.Machine

/-! ## The operands -/

theorem sourceIndex_eq_none {idx : Nat} (above : 63 < idx) : sourceIndex idx = none := dif_neg (by omega)

theorem segmentIndex_val (i : SegNo) : segmentIndex i.val = some i := dif_pos i.isLt

theorem segmentIndex_eq_none {seg : Nat} (above : 511 < seg) : segmentIndex seg = none := dif_neg (by omega)

theorem segmentIndex_cases (seg : Nat) : segmentIndex seg = none ∨ ∃ i : SegNo, segmentIndex seg = some i ∧ i.val = seg := by
  by_cases hs : seg < 512
  · exact .inr ⟨⟨seg, hs⟩, dif_pos hs, rfl⟩
  · exact .inl (dif_neg hs)

theorem sourceIndex_cases (idx : Nat) : sourceIndex idx = none ∨ ∃ i : SourceId, sourceIndex idx = some i ∧ i.val = idx := by
  by_cases hs : idx < 64
  · exact .inr ⟨⟨idx, hs⟩, dif_pos hs, rfl⟩
  · exact .inl (dif_neg hs)

theorem isOrderBlock_iff (n : Nat) : isOrderBlock n = true ↔ n = 1 ∨ n = 4 ∨ n = 8 ∨ n = 16 := by
  simp [isOrderBlock, or_assoc]

theorem segmentInRange_iff (d : SegOperands) : segmentInRange d = true ↔
    d.region ≤ 7 ∧ d.base ≤ 16777215 ∧ (d.block = 1 ∨ d.block = 4 ∨ d.block = 8 ∨ d.block = 16) := by
  simp [segmentInRange, isOrderBlock_iff, and_assoc]

section
variable {d : SegOperands}

theorem segmentValid_absent (hd : d.kind = .absent) : segmentValid d = true := by simp [segmentValid, hd]

theorem segmentValid_direct (hd : d.kind = .direct) : segmentValid d = true ↔
    segmentInRange d = true ∧ 1 ≤ d.limit ∧ d.limit ≤ 1048576 ∧ d.base + d.limit ≤ 16777216 := by
  change _ ↔ _ ∧ _ ∧ _ ∧ _ ≤ Config.regionWords
  simp [segmentValid, segmentExtentOk, hd, and_assoc]

theorem segmentValid_journal (hd : d.kind = .journal) : segmentValid d = true ↔
    segmentInRange d = true ∧ 8 ≤ d.limit ∧ d.limit ≤ 1048576 ∧ d.base + d.limit ≤ 16777216 := by
  change _ ↔ _ ∧ _ ∧ _ ∧ _ ≤ Config.regionWords
  simp [segmentValid, segmentExtentOk, hd, and_assoc]

theorem segmentValid_indirect (hd : d.kind = .indirect) : segmentValid d = true ↔
    segmentInRange d = true ∧ d.base + 2 ≤ 16777216 := by
  simp [segmentValid, segmentExtentOk, hd, Config.regionWords]

end

/-! ## Writes -/

/-- Settles O17. -/
theorem sourceWriteTaken : Obligations.SourceWriteTaken := by
  intro p h i f s admitted h1 h8 noLock count first second
  have free : ¬(0 < s.count i ∨ (s.cursor i 0).inFlight = true ∨ (s.cursor i 1).inFlight = true) := by
    simp [count, first, second]
  have taken : (s.takeFrame p).sourceWriteRefusal h i f = none := by
    rw [takeFrame_sourceWriteRefusal,
      sourceWriteRefusal_of_not_locksOut h1 h8 (by rwa [locksOut_iff]), if_neg (by rwa [sourceBusy_iff])]
  rw [exec_sourceWrite, execSourceWrite, accept_admitted admitted, sourceIndex_val]
  simp only [taken]
  rw [takeFrame_eq]
  rfl

section
variable {s : State} {p : Port} {h : Hdr}

theorem exec_sourceWrite_badIndex {idx : Nat} {f : SourceFields} (admitted : s.admits (.sourceWrite p h idx f) p h)
    (above : 63 < idx) : exec (.sourceWrite p h idx f) s = .next ((s.takeFrame p).respond p h 1 .badValue []).finish := by
  rw [exec_sourceWrite, execSourceWrite, accept_admitted admitted, sourceIndex_eq_none above]

theorem exec_segmentWrite_refused {seg : Nat} {d : SegOperands} (admitted : s.admits (.segmentWrite p h seg d) p h)
    (bad : 511 < seg ∨ segmentValid d = false) :
    exec (.segmentWrite p h seg d) s = .next ((s.takeFrame p).respond p h 3 .badValue []).finish := by
  rw [exec_segmentWrite, execSegmentWrite, accept_admitted admitted]
  obtain none | ⟨i, hi, rfl⟩ := segmentIndex_cases seg
  · rw [none]
  · simp only [hi]
    rw [if_neg (by simpa using bad.resolve_left (by omega))]

theorem exec_segmentWrite_taken {i : SegNo} {d : SegOperands} (admitted : s.admits (.segmentWrite p h i.val d) p h)
    (valid : segmentValid d = true) :
    exec (.segmentWrite p h i.val d) s = .next (((s.takeFrame p).storeSegment i d).respond p h 3 .ok []).finish := by
  rw [exec_segmentWrite, execSegmentWrite, accept_admitted admitted, segmentIndex_val]
  simp only [valid, if_true]

end

/-- Settles O19: each operand out of range fails one check of R3 or R9. -/
theorem tableWriteOutOfRange : Obligations.TableWriteOutOfRange := by
  refine ⟨fun p h idx f s admitted bad => ?_, fun p h seg d s admitted bad => exec_segmentWrite_refused admitted ?_⟩
  · by_cases above : 63 < idx
    · exact exec_sourceWrite_badIndex admitted above
    · obtain ⟨i, rfl⟩ : ∃ i : SourceId, i.val = idx := ⟨⟨idx, by omega⟩, rfl⟩
      refine exec_sourceWrite_refused admitted ?_
      rw [State.sourceWriteRefusal, if_pos (bad.resolve_left above)]
  · have unfit (hd : d.kind ≠ .absent) (hr : segmentInRange d = false) : segmentValid d = false := by
      simp [segmentValid, hd, hr]
    obtain above | ⟨hd, range⟩ | ⟨hd, extent⟩ | ⟨hd, extent⟩ | ⟨hd, extent⟩ := bad
    · exact .inl above
    · refine .inr (unfit hd (Bool.eq_false_iff.mpr ?_))
      rw [ne_eq, segmentInRange_iff]
      omega
    all_goals refine .inr (Bool.eq_false_iff.mpr ?_)
    · rw [ne_eq, segmentValid_direct hd]
      omega
    · rw [ne_eq, segmentValid_journal hd]
      omega
    · rw [ne_eq, segmentValid_indirect hd]
      omega

/-- Settles O20. -/
theorem segmentWriteTaken : Obligations.SegmentWriteTaken := by
  intro p h i d s admitted
  dsimp only
  have stored {x : Descriptor} (valid : segmentValid d = true) (hx : storedDescriptor d = x) :
      exec (.segmentWrite p h i.val d) s = .next
        (State.respond
          { s.takeFrame p with
            segments := s.segments.set i.val { desc := x, parityOk := true } i.isLt,
            poisonedSegments := s.poisonedSegments.filter (· != i) } p h 3 .ok []).finish := by
    rw [exec_segmentWrite_taken admitted valid, ← hx, takeFrame_eq]
    rfl
  refine ⟨fun hd => stored (segmentValid_absent hd) ?_, fun hd fits extent => stored ?_ ?_,
    fun hd fits least most extent => stored ?_ ?_⟩
  · simp only [storedDescriptor, hd]
    rfl
  · exact (segmentValid_indirect hd).mpr ⟨(segmentInRange_iff d).mpr fits, extent⟩
  · simp [storedDescriptor, hd]
  · obtain hd | hd := hd
    · rw [if_pos hd] at least
      exact (segmentValid_direct hd).mpr ⟨(segmentInRange_iff d).mpr fits, least, most, extent⟩
    · rw [if_neg (by simp [hd])] at least
      exact (segmentValid_journal hd).mpr ⟨(segmentInRange_iff d).mpr fits, least, most, extent⟩
  · obtain hd | hd := hd <;> simp [storedDescriptor, hd]

/-! ## Reads -/

/-- Settles O21. -/
theorem tableReadsAnswered : Obligations.TableReadsAnswered := by
  refine ⟨rfl, rfl, fun p h idx s admitted => ?_, fun p h seg s admitted => ?_⟩
  · rw [exec_sourceRead, execSourceRead, accept_admitted admitted]
    refine ⟨fun above => by rw [sourceIndex_eq_none above], ?_⟩
    rintro i rfl
    simp only [sourceIndex_val, takeFrame_poisonedSources, takeFrame_sourceFaults, takeFrame_source, takeFrame_count]
    refine ⟨fun named => ?_, fun clean fault => ?_, fun clean noFault => ?_⟩
    · rw [if_pos (by simpa using named)]
    · rw [if_neg (by simpa using clean), if_pos fault]
    · rw [if_neg (by simpa using clean), if_neg (by simp [noFault])]
      rfl
  · rw [exec_segmentRead, execSegmentRead, accept_admitted admitted]
    refine ⟨fun above => by rw [segmentIndex_eq_none above], ?_⟩
    rintro i rfl
    simp only [segmentIndex_val, takeFrame_poisonedSegments, takeFrame_segmentFaults, takeFrame_segment]
    refine ⟨fun named => ?_, fun clean fault => ?_, fun clean noFault => ?_⟩
    · rw [if_pos (by simpa using named)]
    · rw [if_neg (by simpa using clean), if_pos fault]
    · rw [if_neg (by simpa using clean), if_neg (by simp [noFault])]
      have order : (if (s.segment i).order = .interchange then 1 else 0) = bitNat (s.segment i).order.isInterchange := by
        cases (s.segment i).order <;> rfl
      rw [order]
      rfl

end Sys2Proof.Machine

/-!
Region profiles (R85 to R89): the operands' ranges are Table 6-1, the region's state selects the column of Table 6-2, and each
write is one record of the region.
-/

namespace Sys2Proof.Machine

/-! ## The operands -/

theorem regionIndex_val (r : RegionId) : regionIndex r.val = some r := dif_pos r.isLt

theorem regionIndex_cases (region : Nat) :
    (7 < region ∧ regionIndex region = none) ∨ ∃ r : RegionId, regionIndex region = some r ∧ r.val = region := by
  by_cases hr : region < 8
  · exact .inr ⟨⟨region, hr⟩, dif_pos hr, rfl⟩
  · exact .inl ⟨by omega, dif_neg hr⟩

theorem validClock_iff (g : ClockGroup) : validClock g = true ↔ 1 ≤ g.divider ∧ g.divider ≤ 8 := by simp [validClock]

theorem validTiming_iff (g : TimingGroup) : validTiming g = true ↔
    (g.burst = 1 ∨ g.burst = 4 ∨ g.burst = 8 ∨ g.burst = 16) ∧
      (g.page = 16 ∨ g.page = 32 ∨ g.page = 64 ∨ g.page = 128 ∨ g.page = 256 ∨ g.page = 512 ∨ g.page = 1024) ∧
      1 ≤ g.first ∧ g.first ≤ 31 ∧ 1 ≤ g.hit ∧ g.hit ≤ 15 ∧ 1 ≤ g.readyLimit ∧ g.readyLimit ≤ 4095 := by
  simp [validTiming, isBurstLength, isPageLength, and_assoc, or_assoc]

theorem validPatrol_iff (g : PatrolGroup) : validPatrol g = true ↔ g.addr % 4 = 0 ∧ g.addr ≤ 16777212 := by
  simp [validPatrol]

theorem appliesAtOnce_iff (x : RegionState) : x.appliesAtOnce = true ↔ x = .offline ∨ x = .parked ∨ x = .halted := by
  cases x <;> simp [RegionState.appliesAtOnce]

/-- The lane delays of an untrained bus. -/
theorem replicate_busLanes (c : ClockGroup) : List.replicate (busLanes c) 0 = if c.wide then [0, 0, 0, 0] else [0, 0] := by
  unfold busLanes
  cases c.wide <;> rfl

theorem setRegion_setRegion (s : State) (r : RegionId) (g g' : Region) :
    (s.setRegion r g).setRegion r g' = s.setRegion r g' := by
  simp [State.setRegion]

/-! ## The clock group -/

/-- Settles O22. -/
theorem clockGroupWrite : Obligations.ClockGroupWrite := by
  intro p h region g s admitted
  rw [exec_profileWriteClock, execProfileWriteClock, accept_admitted admitted]
  refine ⟨fun bad => ?_, ?_⟩
  · obtain ⟨-, none⟩ | ⟨r, hr, rfl⟩ := regionIndex_cases region
    · rw [none]
    · simp only [hr]
      rw [if_pos (by rw [Bool.eq_false_iff, ne_eq, validClock_iff]; omega)]
  · rintro r rfl least most
    simp only [regionIndex_val, takeFrame_region, (validClock_iff g).mpr ⟨least, most⟩, reduceCtorEq, if_false]
    refine ⟨fun atOnce => ?_, fun later => ?_⟩
    · rw [if_pos ((appliesAtOnce_iff _).mpr atOnce), ← replicate_busLanes]
      rfl
    · rw [if_neg (by rw [appliesAtOnce_iff]; obtain e | e | e | e := later <;> simp [e])]

/-! ## The timing group -/

section
variable {s : State} {r : RegionId} (t : TimingGroup)

theorem retime_of_quiet (quiet : (s.region r).inFlight = false) :
    s.retime r t = (s.setRegion r
      { s.region r with
        timing := t, timingOk := true, due := false, patrolRead := none, state := .settling, settle := some 2,
        openPage := none, action := none, pendingTiming := none,
        poison := { (s.region r).poison with timing := false } }).raise (.profileApplied r) := by
  have quiet' : (s.region r).unnameTiming.inFlight = false := quiet
  rw [State.retime, quiet', if_neg (by simp), State.applyTiming, region_setRegion, setRegion_setRegion]
  rfl

theorem retime_of_inFlight (inFlight : (s.region r).inFlight = true) :
    s.retime r t = s.setRegion r
      { s.region r with
        due := false, patrolRead := none, state := .quiescing, action := some .apply, pendingTiming := some t,
        poison := { (s.region r).poison with timing := false } } := by
  have inFlight' : (s.region r).unnameTiming.inFlight = true := inFlight
  rw [State.retime, if_pos inFlight']
  rfl

end

/-- Settles O23. -/
theorem timingGroupWrite : Obligations.TimingGroupWrite := by
  intro p h region g s admitted
  dsimp only
  rw [exec_profileWriteTiming, execProfileWriteTiming, accept_admitted admitted, ← validTiming_iff]
  refine ⟨fun bad => ?_, ?_⟩
  · obtain ⟨-, none⟩ | ⟨r, hr, rfl⟩ := regionIndex_cases region
    · rw [none]
    · simp only [hr]
      rw [if_pos (by simpa using bad.resolve_left (by omega))]
  · rintro r rfl valid
    simp only [regionIndex_val, takeFrame_region, valid, reduceCtorEq, if_false]
    refine ⟨fun atOnce => ?_, fun online quiet => ?_, fun online inFlight => ?_, fun busy => ?_⟩
    · rw [if_pos ((appliesAtOnce_iff _).mpr atOnce)]
      rfl
    · rw [online, if_neg (by simp [RegionState.appliesAtOnce]), if_pos rfl,
        retime_of_quiet g (by rwa [takeFrame_region]), takeFrame_region]
    · rw [online, if_neg (by simp [RegionState.appliesAtOnce]), if_pos rfl,
        retime_of_inFlight g (by rwa [takeFrame_region]), takeFrame_region]
    · rw [if_neg (by rw [appliesAtOnce_iff]; obtain e | e | e := busy <;> simp [e]),
        if_neg (by obtain e | e | e := busy <;> simp [e])]

/-! ## The patrol group -/

section
variable {g : Region} (x : PatrolGroup)

theorem Region.storePatrol_of_quiet (quiet : g.inFlight = false) :
    g.storePatrol x =
      { g with patrol := x, patrolOk := true, written := none, poison := { g.poison with patrol := false } } :=
  Region.admitPatrol_of_quiet
    (g := { g with written := some x, patrolOk := true, poison := { g.poison with patrol := false } }) quiet

theorem Region.storePatrol_of_inFlight (inFlight : g.inFlight = true) :
    g.storePatrol x =
      { g with written := some x, patrolOk := true, poison := { g.poison with patrol := false } } := by
  have inFlight' : Region.inFlight
      { g with written := some x, patrolOk := true, poison := { g.poison with patrol := false } } = true := inFlight
  rw [Region.storePatrol, Region.admitPatrol]
  dsimp only
  rw [if_pos inFlight']

end

/-- Settles O24. -/
theorem patrolGroupWrite : Obligations.PatrolGroupWrite := by
  intro p h region g s admitted
  rw [exec_profileWritePatrol, execProfileWritePatrol, accept_admitted admitted]
  refine ⟨fun bad => ?_, ?_⟩
  · obtain ⟨-, none⟩ | ⟨r, hr, rfl⟩ := regionIndex_cases region
    · rw [none]
    · simp only [hr]
      rw [if_pos (by rw [Bool.eq_false_iff, ne_eq, validPatrol_iff]; omega)]
  · rintro r rfl aligned most
    simp only [regionIndex_val, takeFrame_region, (validPatrol_iff g).mpr ⟨aligned, most⟩, reduceCtorEq, if_false]
    exact ⟨fun quiet => by rw [Region.storePatrol_of_quiet g quiet],
      fun inFlight => by rw [Region.storePatrol_of_inFlight g inFlight]⟩

/-! ## The profile read back -/

/-- The pending action bits of the region word, as Table 12-9 note 1 words them. -/
theorem Region.actionCode_eq (g : Region) : g.actionCode =
    if g.state = .quiescing then (g.action.map PendingAction.code).getD 0
    else if g.state = .halted ∧ g.prior = some .quiescing then (g.priorAction.map PendingAction.code).getD 0
    else 0 := by
  unfold Region.actionCode
  split
  case h_1 a hs ha => simp [hs, ha]
  case h_2 a hs hp ha => simp [hs, hp, ha]
  case h_3 noAction noPrior =>
    split_ifs with quiescing halted
    · cases ha : g.action with
      | none => rfl
      | some a => exact (noAction a quiescing ha).elim
    · cases ha : g.priorAction with
      | none => rfl
      | some a => exact (noPrior a halted.1 halted.2 ha).elim
    · rfl

theorem Region.priorCode_eq (g : Region) : g.priorCode =
    if g.state = .halted then (g.prior.map RegionState.code).getD 0 else 0 := by
  unfold Region.priorCode
  split
  case h_1 x hs hp => simp [hs, hp]
  case h_2 noPrior =>
    split_ifs with halted
    · cases hp : g.prior with
      | none => rfl
      | some x => exact (noPrior x halted hp).elim
    · rfl

/-- Settles O25. -/
theorem profileReadAnswered : Obligations.ProfileReadAnswered := by
  refine ⟨rfl, rfl, fun p h region s admitted => ?_⟩
  rw [exec_profileRead, execProfileRead, accept_admitted admitted]
  refine ⟨fun above => ?_, ?_⟩
  · obtain ⟨-, none⟩ | ⟨r, -, rfl⟩ := regionIndex_cases region
    · rw [none]
    · omega
  · rintro r rfl
    simp only [regionIndex_val, takeFrame_region, takeFrame_profileFaults]
    refine ⟨fun named => ?_, fun clean fault => ?_, fun clean noFault => ?_⟩
    · rw [if_pos named]
    · have fault' : (s.profileFaults r .all).any = true := fault
      rw [if_neg (by simp [clean]), if_pos fault']
      rfl
    · have noFault' : (s.profileFaults r .all).any = false := noFault
      rw [if_neg (by simp [clean]), if_neg (by simp [noFault']), ← Region.actionCode_eq, ← Region.priorCode_eq]
      rfl

end Sys2Proof.Machine

/-!
Region commands (R91 to R99): the command visits its masked regions in order, and one action on one region is a row of
Table 6-4, read off the region's state.
-/

namespace Sys2Proof.Machine

/-! ## The command over its mask -/

theorem getLsbD_regionBit : ∀ q r : RegionId, (1#32 <<< q.val).getLsbD r.val = decide (r = q) := by decide

theorem getLsbD_foldl_regionBit (taken : List RegionId) (w : Word) (r : RegionId) :
    (taken.foldl (fun w q => w ||| (1#32 <<< q.val)) w).getLsbD r.val = (w.getLsbD r.val || decide (r ∈ taken)) := by
  induction taken generalizing w with
  | nil => simp
  | cons q taken ih =>
    rw [List.foldl_cons, ih, BitVec.getLsbD_or, getLsbD_regionBit, Bool.or_assoc]
    simp [List.mem_cons]

theorem maskWord_getLsbD (taken : List RegionId) (r : RegionId) :
    (maskWord taken).getLsbD r.val = decide (r ∈ taken) := by
  simp [maskWord, getLsbD_foldl_regionBit]

theorem commandStatus_cons_of_all {e : Status} {rest : List Status} (he : e = .busy ∨ e = .notTrained)
    (all : ∀ x ∈ rest, x = e) : commandStatus (e :: rest) = e := by
  rw [commandStatus, if_pos ⟨he, by simpa using all⟩]

theorem commandStatus_wrongState {reasons : List Status} (notBusy : ¬∀ e ∈ reasons, e = .busy)
    (trained : ¬∀ e ∈ reasons, e = .notTrained) : commandStatus reasons = .wrongState := by
  cases reasons with
  | nil => simp at notBusy
  | cons e rest =>
    rw [commandStatus, if_neg]
    rintro ⟨rfl | rfl, all⟩
    · exact notBusy (by simpa using all)
    · exact trained (by simpa using all)

section
variable {s : State} {p : Port} {h : Hdr} {mask : BitVec 8} {act : State → RegionId → Except Status State}

theorem regionCommand_contained (contained : s.mode = .contained) :
    s.regionCommand p h act mask = s.respond p h 7 .wrongState [0] := by
  rw [State.regionCommand, if_pos contained]

theorem regionCommand_live (live : s.mode ≠ .contained) :
    s.regionCommand p h act mask =
      (runRegions act s mask).state.respond p h 7 (commandStatus (runRegions act s mask).reasons)
        [maskWord (runRegions act s mask).taken] := by
  rw [State.regionCommand, if_neg live]

end

/-- Settles O26. -/
theorem regionCommandAnswered : Obligations.RegionCommandAnswered := by
  refine ⟨fun c act p h mask s five admitted => ?_, fun act x r => ⟨fun t ht => ?_, fun e he => ?_⟩,
    fun reasons => ⟨?_, fun refusals all => ?_, fun refusals all => ?_, commandStatus_wrongState⟩, maskWord_getLsbD⟩
  · have hc : exec c s = .next ((s.takeFrame p).regionCommand p h act mask).finish := by
      have run : exec c s = .next (s.accept c p fun s => s.acceptManage p h 7 fun s => s.regionCommand p h act mask) := by
        obtain ⟨rfl, rfl⟩ | ⟨rfl, rfl⟩ | ⟨rfl, rfl⟩ | ⟨rfl, rfl⟩ | ⟨rfl, rfl⟩ := five <;> rfl
      rw [run, accept_admitted admitted]
    rw [hc]
    refine ⟨fun contained => ?_, fun live => ?_⟩
    · rw [regionCommand_contained (by rwa [takeFrame_mode])]
    · rw [regionCommand_live (by rwa [takeFrame_mode])]
      rfl
  · rw [Progress.visit, ht]
  · rw [Progress.visit, he]
  · rintro rfl
    rfl
  all_goals
    obtain ⟨e, rest, rfl⟩ := List.exists_cons_of_ne_nil refusals
    obtain ⟨rfl, tail⟩ := List.forall_mem_cons.mp all
  · exact commandStatus_cons_of_all (.inl rfl) tail
  · exact commandStatus_cons_of_all (.inr rfl) tail

/-! ## ONLINE, PARK and UNPARK -/

theorem Region.ready_iff (g : Region) : g.ready = true ↔ g.clock.sync = false ∨ g.trained = true := by
  simp [Region.ready]

section
variable (s : State) (r : RegionId)

theorem online_of_offline (offline : (s.region r).state = .offline) :
    s.online r = if (s.region r).ready then .ok (s.setRegion r ((s.region r).settleFor 10)) else .error .notTrained := by
  simp only [State.online, offline]

theorem online_of_ne (other : (s.region r).state ≠ .offline) : s.online r = .error .wrongState := by
  unfold State.online
  dsimp only
  split
  case h_1 offline => exact absurd offline other
  case h_2 => rfl

theorem parkRegion_of_online (online : (s.region r).state = .online) :
    s.parkRegion r =
      .ok (s.setRegion r (if (s.region r).inFlight then (s.region r).quiesce .park else (s.region r).park)) := by
  simp only [State.parkRegion, online]

theorem parkRegion_busy (busy : (s.region r).state = .settling ∨ (s.region r).state = .quiescing) :
    s.parkRegion r = .error .busy := by
  obtain busy | busy := busy <;> simp only [State.parkRegion, busy]

theorem parkRegion_of_ne (online : (s.region r).state ≠ .online) (settling : (s.region r).state ≠ .settling)
    (quiescing : (s.region r).state ≠ .quiescing) : s.parkRegion r = .error .wrongState := by
  unfold State.parkRegion
  dsimp only
  split
  case h_1 x => exact absurd x online
  case h_2 x => exact absurd x settling
  case h_3 x => exact absurd x quiescing
  case h_4 => rfl

theorem unpark_of_parked (parked : (s.region r).state = .parked) :
    s.unpark r = .ok (if (s.region r).ready then s.setRegion r ((s.region r).settleFor 50)
      else (s.enterOffline r).raise (.regionLost r)) := by
  simp only [State.unpark, parked]

theorem unpark_of_ne (other : (s.region r).state ≠ .parked) : s.unpark r = .error .wrongState := by
  unfold State.unpark
  dsimp only
  split
  case h_1 parked => exact absurd parked other
  case h_2 => rfl

end

/-- Settles O27. -/
theorem onlineParkUnparkTable : Obligations.OnlineParkUnparkTable := by
  intro s r
  dsimp only
  simp only [← Region.ready_iff]
  refine ⟨fun offline up => ?_, fun offline down => ?_, online_of_ne s r, fun online inFlight => ?_,
    fun online quiet => ?_, parkRegion_busy s r, parkRegion_of_ne s r, fun parked up => ?_, fun parked down => ?_,
    unpark_of_ne s r⟩
  · rw [online_of_offline s r offline, if_pos up]
    rfl
  · rw [online_of_offline s r offline, if_neg down]
  · rw [parkRegion_of_online s r online, if_pos inFlight]
    rfl
  · rw [parkRegion_of_online s r online, if_neg (by simp [quiet])]
    rfl
  · rw [unpark_of_parked s r parked, if_pos up]
    rfl
  · rw [unpark_of_parked s r parked, if_neg down]

/-! ## OFFLINE -/

section
variable {s : State} {r : RegionId}

theorem leaveInputs_last (holder : s.holder = some r) (alone : s.waiting = []) :
    s.leaveInputs r = { s with holder := none } := by
  rw [State.leaveInputs, if_pos holder, State.releaseInputs, alone]

theorem leaveInputs_next {q : RegionId} {rest : List RegionId} (holder : s.holder = some r) (next : s.waiting = q :: rest) :
    s.leaveInputs r = { s with waiting := rest }.takeInputs q := by
  rw [State.leaveInputs, if_pos holder, State.releaseInputs, next]
  rfl

theorem leaveInputs_waiting (holder : s.holder ≠ some r) :
    s.leaveInputs r = { s with waiting := s.waiting.erase r } := by
  rw [State.leaveInputs, if_neg holder]

/-- An OFFLINE action on a TRAINING region unties the training, gives up the inputs and enters OFFLINE (R94, R108). -/
theorem offline_of_training (training : (s.region r).state = .training) :
    s.offline r = .ok (((s.setRegion r
      { s.region r with
        trained := false, delays := if (s.region r).clock.wide then [0, 0, 0, 0] else [0, 0],
        training := none }).leaveInputs r).enterOffline r) := by
  have taken : s.offline r = .ok (s.abortTraining r) := by simp only [State.offline, training]
  rw [taken, State.abortTraining, ← replicate_busLanes]
  rfl

end

/-- Settles O28. -/
theorem offlineActionTable : Obligations.OfflineActionTable := by
  intro s r
  dsimp only
  refine ⟨fun refused => ?_, fun taken => ?_, fun online quiet => ?_, fun online inFlight => ?_, fun quiescing => ?_,
    fun training => ?_⟩
  · obtain e | e := refused <;> simp only [State.offline, e]
  · obtain e | e := taken <;> simp only [State.offline, e]
  · simp only [State.offline, online]
    rw [if_neg (by simp [quiet])]
  · simp only [State.offline, online]
    rw [if_pos inFlight]
    rfl
  · simp only [State.offline, quiescing]
  · rw [offline_of_training training]
    refine ⟨fun holder alone => ?_, fun q rest holder next => ?_, fun holder => ?_⟩
    · rw [leaveInputs_last (by exact holder) (by exact alone)]
    · rw [leaveInputs_next (by exact holder) (by exact next)]
    · rw [leaveInputs_waiting (by exact holder)]
      rfl

/-! ## Entry into OFFLINE -/

theorem alerts_endCtx (s : State) (i : CtxId) (st : Status) (ws : List Word) : (s.endCtx i st ws).alerts = s.alerts := by
  rw [endCtx_eq]
  split <;> simp [State.clearMarker, State.leaveQueue, State.release] <;> split <;> rfl

theorem alerts_endAll (l : List CtxId) (s : State) (st : Status) : (s.endAll l st).alerts = s.alerts :=
  foldl_keeps (P := fun t => t.alerts = s.alerts) (fun t i ht => (alerts_endCtx t i st []).trans ht) l rfl

/-- Contexts that end change their region's queue and turn pointer alone. -/
theorem region_endAll (l : List CtxId) (s : State) (st : Status) (r : RegionId) :
    ∃ q n, (s.endAll l st).region r = { s.region r with queue := q, turn := n } := by
  unfold State.endAll
  induction l generalizing s with
  | nil => exact ⟨_, _, rfl⟩
  | cons i l ih =>
    obtain ⟨q, n, hr⟩ := ih (s.endCtx i st [])
    rw [List.foldl_cons, hr, Pool.region_endCtx]
    split
    · exact ⟨q, n, by rw [Region.leave_frame]⟩
    · exact ⟨q, n, rfl⟩

/-- Settles O29. -/
theorem entryIntoOffline : Obligations.EntryIntoOffline := by
  intro s r
  obtain ⟨q, n, hr⟩ := region_endAll (s.region r).queue s .regionOffline r
  have region : (s.enterOffline r).region r = ((s.endAll (s.region r).queue .regionOffline).region r).goOffline := by
    rw [State.enterOffline, region_setRegion]
  refine ⟨?_, ?_, alerts_endAll (s.region r).queue s .regionOffline⟩
  · rw [region]
    rfl
  · rw [region, hr]
    rfl

/-! ## TRAIN -/

section
variable {s : State} {r : RegionId}

theorem train_of_ne (h : (s.region r).state ≠ .offline ∨ (s.region r).clock.sync = false) :
    s.train r = .error .wrongState := by
  unfold State.train
  dsimp only
  split
  case h_1 offline => rw [if_pos (h.resolve_left (not_not.mpr offline))]
  case h_2 => rfl

theorem train_of_sync (offline : (s.region r).state = .offline) (sync : (s.region r).clock.sync = true) :
    s.train r = if (s.region r).burst.isSome then .error .busy
      else .ok ((s.setRegion r (s.region r).beginTraining).becomeReady r) := by
  simp only [State.train, offline]
  rw [if_neg (by simp [sync])]

theorem becomeReady_first (free : s.holder = none) (empty : s.waiting = []) : s.becomeReady r = s.takeInputs r := by
  simp [State.becomeReady, free, empty]

theorem becomeReady_waits (h : s.holder ≠ none ∨ s.waiting ≠ []) :
    s.becomeReady r = { s with waiting := s.waiting ++ [r] } := by
  rw [State.becomeReady, if_neg]
  simpa [imp_iff_not_or] using h

end

/-- Settles O30. -/
theorem trainActionTable : Obligations.TrainActionTable := by
  intro s r
  dsimp only
  refine ⟨train_of_ne, fun offline sync onBus => ?_, fun offline sync noBurst free empty => ?_,
    fun offline sync noBurst taken => ?_⟩
  · rw [train_of_sync offline sync, if_pos onBus]
  · rw [train_of_sync offline sync, if_neg (by simp [noBurst]), becomeReady_first (by exact free) (by exact empty), State.takeInputs,
      region_setRegion, setRegion_setRegion]
    simp [Region.beginTraining, Region.untrain, Training.first, Training.probe, busLanes]
  · rw [train_of_sync offline sync, if_neg (by simp [noBurst]), becomeReady_waits (by exact taken)]
    rfl

end Sys2Proof.Machine

/-!
Control (R136 to R138, R152 to R156): PORT_CONTROL port by port, the check enable and the injections, and the registers that
one command sets.
-/

namespace Sys2Proof.Machine

/-! ## PORT_CONTROL: ENABLE -/

section
variable (s : State) (q : Port)

theorem enableReceiver_eq : s.enableReceiver q =
    if (s.port q).rxOn = false then
      s.setPort q { s.port q with
        rxOn := true, signals := (s.port q).signals ++ [.restore (8 - (s.port q).ingress.length)] }
    else s := by
  unfold State.enableReceiver
  cases on : (s.port q).rxOn
  · simp only [State.signal, port_setPort, setPort_setPort, Bool.false_eq_true, if_false, if_true]
    rfl
  · rfl

theorem enableTransmitter_eq : s.enableTransmitter q =
    if (s.port q).txOn = false then (s.setPort q { s.port q with txOn := true }).trySend q else s := by
  unfold State.enableTransmitter
  cases (s.port q).txOn <;> rfl

end

section
variable {s : State} {q : Port} {rx tx : BitVec 4}

/-- The transmitter's item is taken on what the receiver's item left. -/
theorem enablePort_of_receiver {u : State} (hu : (if portItem rx q then s.enableReceiver q else s) = u) :
    State.enablePort rx tx s q = if portItem tx q then u.enableTransmitter q else u := by
  subst hu
  rfl

theorem receiver_enabled (up : portItem rx q = true ∧ (s.port q).rxOn = false) :
    (if portItem rx q then s.enableReceiver q else s) =
      s.setPort q { s.port q with
        rxOn := true, signals := (s.port q).signals ++ [.restore (8 - (s.port q).ingress.length)] } := by
  rw [if_pos up.1, enableReceiver_eq, if_pos up.2]

theorem receiver_kept (still : ¬(portItem rx q = true ∧ (s.port q).rxOn = false)) :
    (if portItem rx q then s.enableReceiver q else s) = s := by
  by_cases named : portItem rx q = true
  · rw [if_pos named, enableReceiver_eq, if_neg fun off => still ⟨named, off⟩]
  · rw [if_neg named]

theorem transmitter_enabled (up : portItem tx q = true ∧ (s.port q).txOn = false) :
    (if portItem tx q then s.enableTransmitter q else s) = (s.setPort q { s.port q with txOn := true }).trySend q := by
  rw [if_pos up.1, enableTransmitter_eq, if_pos up.2]

theorem transmitter_kept (still : ¬(portItem tx q = true ∧ (s.port q).txOn = false)) :
    (if portItem tx q then s.enableTransmitter q else s) = s := by
  by_cases named : portItem tx q = true
  · rw [if_pos named, enableTransmitter_eq, if_neg fun off => still ⟨named, off⟩]
  · rw [if_neg named]

end

/-! ## PORT_CONTROL: DISABLE -/

section
variable (s : State)

theorem releaseAll_frame (l : List CtxId) :
    s.releaseAll l = { s with ctxs := (s.releaseAll l).ctxs, counts := (s.releaseAll l).counts } :=
  foldl_keeps (P := fun t => t = { s with ctxs := t.ctxs, counts := t.counts })
    (fun t i ht => by rw [State.release]; generalize t.ctx i = c; rw [ht]; rfl) l rfl

theorem ctx_releaseAll (l : List CtxId) (i : CtxId) :
    (s.releaseAll l).ctx i = if i ∈ l then .free else s.ctx i := by
  unfold State.releaseAll
  induction l generalizing s with
  | nil => rfl
  | cons j l ih =>
    rw [List.foldl_cons, ih]
    by_cases hl : i ∈ l
    · rw [if_pos hl, if_pos (List.mem_cons_of_mem j hl)]
    · by_cases hj : i = j
      · subst hj
        rw [if_neg hl, if_pos List.mem_cons_self, State.release, ctx_setCtx]
      · rw [if_neg hl, if_neg (by simp [hj, hl]), ctx_release_ne s hj]

theorem count_release (i : CtxId) (j : SourceId) :
    (s.release i).count j = if (s.ctx i).source = j then s.count j - 1 else s.count j := by
  rw [State.release, setCtx_count]
  split
  case isTrue hj => subst hj; rw [count_setCount]
  case isFalse hj => rw [count_setCount_ne _ _ (Ne.symm hj)]

/-- Distinct contexts released lower each count by the contexts of its source. -/
theorem count_releaseAll {l : List CtxId} (nodup : l.Nodup) (j : SourceId) :
    (s.releaseAll l).count j = s.count j - (l.filter fun i => (s.ctx i).source == j).length := by
  unfold State.releaseAll
  induction l generalizing s with
  | nil => rfl
  | cons i l ih =>
    obtain ⟨hi, nodup⟩ := List.nodup_cons.mp nodup
    have rest : (l.filter fun k => ((s.release i).ctx k).source == j) = l.filter fun k => (s.ctx k).source == j :=
      List.filter_congr fun k hk => by rw [ctx_release_ne s (ne_of_mem_of_not_mem hk hi)]
    rw [List.foldl_cons, ih _ nodup, rest, count_release, List.filter_cons]
    by_cases hj : (s.ctx i).source = j
    · simp [hj, Nat.sub_sub, Nat.add_comm]
    · simp [hj]

end

section
variable {s : State} {q : Port} {rx tx : BitVec 4}

theorem disableTransmitter_on (on : (s.port q).txOn = true) : s.disableTransmitter q =
    (s.setPort q { s.port q with txOn := false, egress := [], delivery := [] }).releaseAll (s.port q).delivery := by
  rw [State.disableTransmitter, if_pos on]

theorem disableTransmitter_off (off : ¬(s.port q).txOn = true) : s.disableTransmitter q = s := by
  rw [State.disableTransmitter, if_neg off]

/-- What the disabled transmitter of a port leaves: the ports but for its own, and every context but for its delivery list. -/
theorem disableTransmitter_effect (on : (s.port q).txOn = true) :
    let t := s.disableTransmitter q
    t = { s with ports := t.ports, ctxs := t.ctxs, counts := t.counts } ∧
      t.port q = { s.port q with txOn := false, egress := [], delivery := [] } ∧ (∀ y, y ≠ q → t.port y = s.port y) ∧
      (∀ i, t.ctx i = if i ∈ (s.port q).delivery then .free else s.ctx i) ∧
      ((s.port q).delivery.Nodup → ∀ j, t.count j =
        s.count j - ((s.port q).delivery.filter fun i => (s.ctx i).source == j).length) := by
  dsimp only
  rw [disableTransmitter_on on]
  have frame := releaseAll_frame (s.setPort q { s.port q with txOn := false, egress := [], delivery := [] })
    (s.port q).delivery
  have port (y : Port) : ((s.setPort q { s.port q with txOn := false, egress := [], delivery := [] }).releaseAll
      (s.port q).delivery).port y =
        (s.setPort q { s.port q with txOn := false, egress := [], delivery := [] }).port y := by
    rw [frame]
    cases y <;> rfl
  refine ⟨?_, ?_, fun y hy => ?_, fun i => ?_, fun nodup j => ?_⟩
  · rw [frame]
    rfl
  · rw [port, port_setPort]
  · rw [port, port_setPort_ne _ _ hy]
  · rw [ctx_releaseAll, setPort_ctx]
  · exact count_releaseAll _ nodup j

theorem transmitter_left (still : ¬(portItem tx q = true ∧ (s.port q).txOn = true)) :
    (if portItem tx q then s.disableTransmitter q else s) = s := by
  by_cases named : portItem tx q = true
  · rw [if_pos named, disableTransmitter_off fun on => still ⟨named, on⟩]
  · rw [if_neg named]

theorem disablePort_of_kept (kept : ¬portItem rx q = true) :
    State.disablePort rx tx s q = if portItem tx q then s.disableTransmitter q else s := by
  unfold State.disablePort
  rw [if_neg kept]

theorem disablePort_of_receiver (down : portItem rx q = true) : State.disablePort rx tx s q =
    if portItem tx q then (s.setPort q { s.port q with rxOn := false }).disableTransmitter q
    else s.setPort q { s.port q with rxOn := false } := by
  unfold State.disablePort
  rw [if_pos down]
  rfl

end

/-- Settles O31. -/
theorem portControl : Obligations.PortControl := by
  refine ⟨fun p h rx tx s admitted => ?_, fun p h rx tx s admitted => ⟨fun own => ?_, fun rxOther txOther => ?_⟩,
    fun q rx tx s => ?_, fun q rx tx s => ?_⟩
  · rw [exec_portControlEnable, execPortControlEnable, accept_admitted admitted]
  · rw [exec_portControlDisable, execPortControlDisable, accept_admitted admitted, if_pos (by simpa [portItem] using own)]
  · rw [exec_portControlDisable, execPortControlDisable, accept_admitted admitted,
      if_neg (by simp [portItem, rxOther, txOther])]
  · refine ⟨fun rxUp noTx => ?_, fun noRx txUp => ?_, fun rxUp txUp => ?_, fun noRx noTx => ?_⟩
    · rw [enablePort_of_receiver (receiver_enabled rxUp), transmitter_kept (by rwa [port_setPort])]
    · rw [enablePort_of_receiver (receiver_kept noRx), transmitter_enabled txUp]
    · rw [enablePort_of_receiver (receiver_enabled rxUp), transmitter_enabled (by rwa [port_setPort]), port_setPort,
        setPort_setPort]
    · rw [enablePort_of_receiver (receiver_kept noRx), transmitter_kept noTx]
  · refine ⟨fun noRx noTx => ?_, fun rxDown noTx => ?_, fun txDown => ?_⟩
    · rw [disablePort_of_kept noRx, transmitter_left noTx]
    · rw [disablePort_of_receiver rxDown, transmitter_left (by rwa [port_setPort])]
    · obtain ⟨(named : portItem tx q = true), on⟩ := txDown
      by_cases rxDown : portItem rx q = true
      · rw [disablePort_of_receiver rxDown, if_pos named]
        have on' : ((s.setPort q { s.port q with rxOn := false }).port q).txOn = true := by rwa [port_setPort]
        obtain ⟨frame, own, others, ctxs, counts⟩ := disableTransmitter_effect on'
        rw [port_setPort] at own ctxs counts
        refine ⟨?_, fun kept => absurd rxDown kept, fun _ => own,
          fun y hy => (others y hy).trans (port_setPort_ne s _ hy), fun i hi => ?_, fun i hi => ?_,
          fun nodup j => counts nodup j⟩
        · rw [frame]
          rfl
        · rw [ctxs, if_pos hi]
        · rw [ctxs, if_neg hi, setPort_ctx]
      · rw [disablePort_of_kept rxDown, if_pos named]
        obtain ⟨frame, own, others, ctxs, counts⟩ := disableTransmitter_effect on
        exact ⟨frame, fun _ => own, fun down => absurd down rxDown, others, fun i hi => by rw [ctxs, if_pos hi],
          fun i hi => by rw [ctxs, if_neg hi], counts⟩

/-! ## CHECK_CONTROL -/

theorem checkKind_eq_none {check : Nat} (above : 3 < check) : checkKind check = none := by
  obtain ⟨n, rfl⟩ : ∃ n, check = n + 4 := ⟨check - 4, by omega⟩
  rfl

theorem checkKind_isSome {check : Nat} (le : check ≤ 3) : ∃ k, checkKind check = some k := by
  interval_cases check <;> exact ⟨_, rfl⟩

/-- An injection is armed once its response has been assembled (R137). -/
theorem exec_checkControlInject_armed {s : State} {p : Port} {h : Hdr} {check : Nat} {k : CheckKind}
    (admitted : s.admits (.checkControlInject p h check) p h) (kind : checkKind check = some k) (on : s.checks = true) :
    exec (.checkControlInject p h check) s = .next
      (State.finish { (s.takeFrame p).respond p h 9 .ok [] with
        inject := ((s.takeFrame p).respond p h 9 .ok []).inject.arm k }) := by
  rw [exec_checkControlInject, execCheckControlInject, accept_admitted admitted, kind]
  dsimp only
  rw [if_neg (by simp [on])]

/-- Settles O32. -/
theorem checkControl : Obligations.CheckControl := by
  intro p h s
  refine ⟨fun admitted => ?_, fun admitted => ?_, fun check admitted => ⟨fun above => ?_, fun le off => ?_,
    fun on kind => ?_, fun on kind => ?_, fun on kind => ?_, fun on kind => ?_⟩⟩
  · rw [exec_checkControlEnable, execCheckControlEnable, accept_admitted admitted]
  · rw [exec_checkControlDisable, execCheckControlDisable, accept_admitted admitted]
    rfl
  · rw [exec_checkControlInject, execCheckControlInject, accept_admitted admitted, checkKind_eq_none above]
  · obtain ⟨k, hk⟩ := checkKind_isSome le
    rw [exec_checkControlInject, execCheckControlInject, accept_admitted admitted, hk]
    dsimp only
    rw [if_pos (by rw [takeFrame_checks, off])]
  all_goals
    subst kind
    rw [exec_checkControlInject_armed admitted rfl on]
    rfl

/-! ## PATROL_SET, the alerts and START -/

/-- Settles O33. -/
theorem patrolAlertAndModeRegisters : Obligations.PatrolAlertAndModeRegisters := by
  intro p h s
  refine ⟨fun v admitted => ⟨fun above => ?_, fun le => ?_⟩, fun m admitted => ?_, fun m admitted => ?_,
    fun m admitted => ?_, fun admitted => ⟨fun config => ?_, fun started => ?_⟩⟩
  · rw [exec_patrolSet, execPatrolSet, accept_admitted admitted, if_pos above]
  · rw [exec_patrolSet, execPatrolSet, accept_admitted admitted, if_neg (by omega)]
  · rw [exec_alertControlEnable, execAlertControlEnable, accept_admitted admitted, takeFrame_alertMask]
  · rw [exec_alertControlDisable, execAlertControlDisable, accept_admitted admitted, takeFrame_alertMask]
  · rw [exec_alertClear, execAlertClear, accept_admitted admitted, takeFrame_alerts]
  · rw [exec_start, execStart, accept_admitted admitted, if_pos (by rwa [takeFrame_mode])]
  · rw [exec_start, execStart, accept_admitted admitted,
      if_neg (by rw [takeFrame_mode]; obtain e | e := started <;> simp [e])]

end Sys2Proof.Machine

/-!
Status, SOFT_RESET and CLEAR_CONTAINMENT (R101, R145, R155, R158).
-/

namespace Sys2Proof.Machine

/-! ## STATUS_READ -/

theorem toList_eq_map_finRange {α : Type} {n : Nat} (v : Vector α n) : v.toList = (List.finRange n).map fun i => v[i] := by
  refine List.ext_getElem (by simp) fun k hk _ => ?_
  simp

theorem regions_toList (s : State) : s.regions.toList = (List.finRange 8).map s.region := toList_eq_map_finRange s.regions

theorem ctxs_toList (s : State) : s.ctxs.toList = (List.finRange 32).map s.ctx := toList_eq_map_finRange s.ctxs

theorem length_filter_map {α β : Type} (f : α → β) (q : β → Bool) (l : List α) :
    ((l.map f).filter q).length = (l.filter fun a => q (f a)).length := by
  rw [List.filter_map, List.length_map]
  rfl

theorem heldContexts_eq (s : State) :
    s.heldContexts = ((List.finRange 32).filter fun i => (s.ctx i).state != .free).length := by
  rw [State.heldContexts, ctxs_toList, length_filter_map]

theorem poisonedSize_eq (s : State) : s.poisonedSize = s.poisonedSources.length + s.poisonedSegments.length +
    ((List.finRange 8).filter fun r => (s.region r).poison.any).length := by
  rw [State.poisonedSize, regions_toList, length_filter_map]

theorem sum_mapIdx_eight {α : Type} (f : Nat → α → Nat) (a b c d e g h i : α) :
    ([a, b, c, d, e, g, h, i].mapIdx f).sum = f 0 a + f 1 b + f 2 c + f 3 d + f 4 e + f 5 g + f 6 h + f 7 i := by
  simp [List.mapIdx_cons, Nat.add_assoc]

/-- The region states' places in the enables word. -/
theorem regionStates_sum (s : State) :
    (s.regions.toList.mapIdx fun r g => g.state.code * 2 ^ (8 + 3 * r)).sum =
      (s.region 0).state.code * 2 ^ 8 + (s.region 1).state.code * 2 ^ 11 + (s.region 2).state.code * 2 ^ 14 +
        (s.region 3).state.code * 2 ^ 17 + (s.region 4).state.code * 2 ^ 20 + (s.region 5).state.code * 2 ^ 23 +
        (s.region 6).state.code * 2 ^ 26 + (s.region 7).state.code * 2 ^ 29 := by
  have toList : s.regions.toList =
      [s.region 0, s.region 1, s.region 2, s.region 3, s.region 4, s.region 5, s.region 6, s.region 7] := regions_toList s
  rw [toList, sum_mapIdx_eight]

theorem enablesWord_eq (s : State) : s.enablesWord =
    word (bitNat (s.port .A).rxOn + bitNat (s.port .B).rxOn * 2 + bitNat (s.port .C).rxOn * 4 +
      bitNat (s.port .D).rxOn * 8 + bitNat (s.port .A).txOn * 16 + bitNat (s.port .B).txOn * 32 +
      bitNat (s.port .C).txOn * 64 + bitNat (s.port .D).txOn * 128 + (s.region 0).state.code * 2 ^ 8 +
      (s.region 1).state.code * 2 ^ 11 + (s.region 2).state.code * 2 ^ 14 + (s.region 3).state.code * 2 ^ 17 +
      (s.region 4).state.code * 2 ^ 20 + (s.region 5).state.code * 2 ^ 23 + (s.region 6).state.code * 2 ^ 26 +
      (s.region 7).state.code * 2 ^ 29) := by
  rw [State.enablesWord, regionStates_sum]
  simp only [State.port, Nat.add_assoc]

theorem takeFrame_statusWords (s : State) (p : Port) : (s.takeFrame p).statusWords = s.statusWords := by
  rw [takeFrame_eq]
  cases p <;> rfl

theorem recordNat_profile (r : RegionId) (g : Groups) : (FaultItem.profile r g).recordNat =
    1 + 2 * 256 + r.val * 4096 + (if g.clock then 65536 else 0) + (if g.timing then 131072 else 0) +
      (if g.patrol then 262144 else 0) := by
  simp only [FaultItem.recordNat, Groups.bits, bitNat, ite_mul, Nat.one_mul, Nat.zero_mul, Nat.add_assoc]

theorem recordNat_egress (p : Port) (k : CtxId) : (FaultItem.egress p (some k)).recordNat = 4 + 32 + portIndex p * 4096 ∧
    (FaultItem.egress p none).recordNat = 4 + portIndex p * 4096 := by
  cases p <;> exact ⟨rfl, rfl⟩

/-- Settles O34. -/
theorem statusReadAnswered : Obligations.StatusReadAnswered := by
  refine ⟨rfl, rfl, fun i j k r a => ⟨rfl, rfl, rfl, rfl, fun g => ⟨recordNat_profile r g, rfl⟩, rfl, rfl, rfl, rfl,
    fun p => ⟨(recordNat_egress p k).1, rfl, (recordNat_egress p k).2, rfl⟩, rfl, rfl⟩,
    fun p h s => ⟨fun admitted => ?_, fun next fault => ?_⟩⟩
  · rw [exec_statusRead, execStatusRead, accept_admitted admitted, takeFrame_statusWords, State.statusWords,
      heldContexts_eq, poisonedSize_eq, enablesWord_eq]
    cases s.record <;> simp only [bitNat, recordWord, detailWord]
  · rw [exec_statusRead, execStatusRead, accept_next _ _ next, State.acceptManage, takeFrame_sourceFaults, if_pos fault]

/-! ## SOFT_RESET -/

theorem PortState.emptied_eq (x : PortState) : x.emptied =
    { x with
      ingress := [], egress := [], delivery := [], signals := x.signals ++ (if x.rxOn then [.restore 8] else []) } := by
  unfold PortState.emptied
  cases x.rxOn <;> simp [Config.ingressDepth]

section
variable (s : State)

theorem softReset_frame : s.softReset =
    { s with
      ctxs := s.softReset.ctxs, counts := s.softReset.counts, cursors := s.softReset.cursors, ports := s.softReset.ports,
      regions := s.softReset.regions, alerts := 0, raised := 0, mode := .config } := rfl

theorem softReset_ctx (i : CtxId) : s.softReset.ctx i = .free := by simp [State.ctx, State.softReset]

theorem softReset_count (j : SourceId) : s.softReset.count j = 0 := by simp [State.count, State.softReset]

theorem softReset_cursor (j : SourceId) (k : Fin 2) : s.softReset.cursor j k = .unset := by
  simp [State.cursor, State.softReset]

theorem softReset_port (p : Port) : s.softReset.port p = (s.port p).emptied := by
  cases p <;> rfl

theorem softReset_region (r : RegionId) : s.softReset.region r = (s.region r).freed := region_map s Region.freed r

end

/-- Settles O35. -/
theorem softResetEffect : Obligations.SoftResetEffect := by
  refine ⟨fun p h s admitted => ⟨fun contained => ?_, fun live => ?_⟩,
    fun s => ⟨softReset_frame s, softReset_ctx s, softReset_count s, softReset_cursor s, fun p => ?_, fun r => ?_⟩⟩
  · rw [exec_softReset, execSoftReset, accept_admitted admitted, if_pos (by rwa [takeFrame_mode])]
  · rw [exec_softReset, execSoftReset, accept_admitted admitted, if_neg (by rwa [takeFrame_mode])]
  · exact (softReset_port s p).trans (s.port p).emptied_eq
  · exact (softReset_region s r).trans (s.region r).freed_eq

/-! ## CLEAR_CONTAINMENT -/

section
variable {g : Region}

theorem leaveHalted_of_parked (prior : g.prior = some .parked ∨
    g.prior = some .quiescing ∧ g.priorAction = some .park) : g.leaveHalted.state = .parked := by
  unfold Region.leaveHalted
  obtain prior | ⟨prior, action⟩ := prior
  · rw [prior]
    rfl
  · rw [prior, action]
    rfl

theorem leaveHalted_of_offline (prior : g.prior = some .offline ∨ g.prior = some .training) :
    g.leaveHalted.state = .offline := by
  unfold Region.leaveHalted
  obtain prior | prior := prior <;> rw [prior] <;> rfl

/-- A region halted in SETTLING, in ONLINE, or in QUIESCING on its way to either comes up again where its device can. -/
theorem leaveHalted_of_up (prior : g.prior = some .settling ∨ g.prior = some .online ∨
    (g.prior = some .quiescing ∧ (g.priorAction = some .apply ∨ g.priorAction = some .offline))) :
    g.leaveHalted =
      if g.ready then { g with prior := none, priorAction := none }.settleFor 10
      else { g with prior := none, priorAction := none }.goOffline := by
  unfold Region.leaveHalted
  obtain prior | prior | ⟨prior, action | action⟩ := prior
  · rw [prior]
  · rw [prior]
  · rw [prior, action]
  · rw [prior, action]

/-- What leaving HALTED leaves of a region. -/
theorem leaveHalted_eq (g : Region) : g.leaveHalted =
    { g with
      state := g.leaveHalted.state, settle := g.leaveHalted.settle, openPage := g.leaveHalted.openPage,
      queue := g.leaveHalted.queue, turn := g.leaveHalted.turn, due := g.leaveHalted.due,
      patrolRead := g.leaveHalted.patrolRead, training := g.leaveHalted.training, prior := none, priorAction := none,
      action := none, pendingTiming := none } := by
  unfold Region.leaveHalted
  dsimp only
  split
  case h_3 | h_4 | h_5 => split <;> rfl
  all_goals rfl

end

/-- Settles O36. -/
theorem clearContainmentTakenOrRefused : Obligations.ClearContainmentTakenOrRefused := by
  refine ⟨fun p h s admitted => ?_, fun g => ?_⟩
  · rw [exec_clearContainment, execClearContainment, accept_admitted admitted, takeFrame_mode]
    have size : (s.takeFrame p).poisonedSize = s.poisonedSize := by rw [takeFrame_eq]; rfl
    rw [size]
    refine ⟨fun live => ?_, fun contained poisoned => ?_, fun c contained sources segments regions record => ?_⟩
    · rw [if_pos live]
    · rw [if_neg (not_not.mpr contained), if_pos ((poisonedSize_eq_zero_iff s).not.mpr poisoned)]
    · rw [if_neg (not_not.mpr contained), if_neg (not_not.mpr ((poisonedSize_eq_zero_iff s).mpr ⟨sources, segments, regions⟩)),
        State.clearContainment, takeFrame_record, record, takeFrame_regions]
  · dsimp only
    rw [← Region.ready_iff]
    refine ⟨leaveHalted_of_offline, fun parked => leaveHalted_of_parked (.inl parked),
      fun quiescing park => leaveHalted_of_parked (.inr ⟨quiescing, park⟩), fun prior => ⟨fun up => ?_, fun down => ?_⟩,
      leaveHalted_eq g⟩
    · rw [leaveHalted_of_up prior, if_pos up]
      exact ⟨rfl, rfl, rfl⟩
    · rw [leaveHalted_of_up prior, if_neg down]
      rfl

end Sys2Proof.Machine

/-!
Bursts (R55 to R63): how a linear access is cut, and whose burst the next turn of a region issues.
-/

namespace Sys2Proof.Machine

/-! ## The cut -/

/-- A burst that ends at or before the next multiple of `b` lies in one aligned group of `b`. -/
theorem last_div_of_le {b a l : Nat} (hb : 0 < b) (pos : 0 < l) (fits : l ≤ b - a % b) : (a + l - 1) / b = a / b := by
  have split : b * (a / b) + a % b = a := Nat.div_add_mod a b
  have short : a % b + (l - 1) < b := by
    have := Nat.mod_lt a hb
    omega
  calc (a + l - 1) / b = (b * (a / b) + (a % b + (l - 1))) / b := by congr 1; omega
    _ = a / b := by rw [Nat.mul_add_div hb, Nat.div_eq_of_lt short, Nat.add_zero]

theorem add_sub_mod_mod {b a : Nat} (hb : 0 < b) : (a + (b - a % b)) % b = 0 := by
  have split : b * (a / b) + a % b = a := Nat.div_add_mod a b
  have lt := Nat.mod_lt a hb
  have whole : a + (b - a % b) = b * (a / b + 1) := by
    rw [Nat.mul_succ]
    omega
  rw [whole, Nat.mul_mod_right]

/-- What the cut of a linear access is (R61). -/
def CutOk (b a n : Nat) (l : List Piece) : Prop :=
  (l.map Piece.len).sum = n ∧
    ∀ k (pc : Piece), l[k]? = some pc →
      pc.addr = a + ((l.take k).map Piece.len).sum ∧ 0 < pc.len ∧ pc.wrap = false ∧
      (pc.addr + pc.len - 1) / b = pc.addr / b ∧ (k + 1 < l.length → (pc.addr + pc.len) % b = 0)

theorem cutFuel_ok {fuel b a n : Nat} (hb : 0 < b) (enough : n ≤ fuel) : CutOk b a n (cutFuel fuel b a n) := by
  induction fuel generalizing a n with
  | zero =>
    obtain rfl : n = 0 := by omega
    exact ⟨rfl, fun k pc h => by cases h⟩
  | succ fuel ih =>
    cases n with
    | zero => exact ⟨rfl, fun k pc h => by cases h⟩
    | succ n =>
      have lt := Nat.mod_lt a hb
      have cons : cutFuel (fuel + 1) b a (n + 1) =
          { addr := a, len := min (b - a % b) (n + 1), wrap := false } ::
            cutFuel fuel b (a + min (b - a % b) (n + 1)) (n + 1 - min (b - a % b) (n + 1)) := rfl
      have first : min (b - a % b) (n + 1) ≤ b - a % b := min_le_left ..
      have short : min (b - a % b) (n + 1) ≤ n + 1 := min_le_right ..
      have pos : 0 < min (b - a % b) (n + 1) := by omega
      have full : 0 < n + 1 - min (b - a % b) (n + 1) → min (b - a % b) (n + 1) = b - a % b := by omega
      rw [cons]
      generalize min (b - a % b) (n + 1) = len at *
      obtain ⟨sum, pieces⟩ := ih (a := a + len) (n := n + 1 - len) (by omega)
      refine ⟨?_, fun k pc hk => ?_⟩
      · rw [List.map_cons, List.sum_cons, sum]
        exact Nat.add_sub_cancel' short
      · cases k with
        | zero =>
          obtain rfl := Option.some.inj hk
          refine ⟨rfl, pos, rfl, last_div_of_le hb pos first, fun more => ?_⟩
          have rest : 0 < n + 1 - len := by
            by_contra none
            obtain e : n + 1 - len = 0 := by omega
            rw [e] at more
            cases fuel <;> simp [cutFuel] at more
          rw [full rest]
          exact add_sub_mod_mod hb
        | succ k =>
          obtain ⟨addr, hpos, linear, group, ends⟩ := pieces k pc hk
          refine ⟨?_, hpos, linear, group, fun more => ends (by simpa using more)⟩
          rw [addr, List.take_succ_cons, List.map_cons, List.sum_cons, Nat.add_assoc]

theorem cut_ok {b : Nat} (a n : Nat) (hb : 0 < b) : CutOk b a n (cut b a n) := cutFuel_ok hb le_rfl

/-! ## Accesses and plans -/

section
variable {c : Context}

theorem access_link (link : c.stage = .link) : c.access = { addr := c.addr, len := 2, write := false } := by
  simp [Context.access, link]

theorem access_read (main : c.stage = .main) (kind : c.kind = .read ∨ c.kind = .cursorRead) :
    c.access = { addr := c.addr, len := c.length, write := false } := by
  obtain kind | kind := kind <;> simp [Context.access, main, kind]

theorem access_write (main : c.stage = .main) (kind : c.kind = .write ∨ c.kind = .cursorWrite) :
    c.access = { addr := c.addr, len := c.length, write := true } := by
  obtain kind | kind := kind <;> simp [Context.access, main, kind]

theorem plan_wrap {w : Wrap} (main : c.stage = .main) (kind : c.kind = .read) (wrap : c.wrap = some w) (cl : ClockGroup)
    (tm : TimingGroup) : c.plan cl tm = wrapPlan cl tm w c.addr := by
  simp only [Context.plan, main, kind, wrap]

theorem plan_linear (linear : c.stage = .link ∨ c.wrap = none) (cl : ClockGroup) (tm : TimingGroup) :
    c.plan cl tm =
      cut (if c.access.write ∧ cl.sync = false then 1 else tm.burst) c.access.addr c.access.len := by
  unfold Context.plan
  split
  case h_1 w main _ wrap =>
    obtain e | e := linear
    · cases main.symm.trans e
    · cases wrap.symm.trans e
  case h_2 => simp

end

/-- Settles O37. -/
theorem burstCut : Obligations.BurstCut := by
  refine ⟨fun b a n hb => cut_ok a n hb, fun c => ⟨access_link, access_read, access_write⟩, fun c cl tm =>
    ⟨fun link => ?_, fun _ linear => plan_linear (.inr linear) cl tm, fun w main kind wrap => ?_⟩⟩
  · rw [plan_linear (.inl link), access_link link]
    rfl
  · rw [plan_wrap main kind wrap]
    refine ⟨fun order sync native block => ?_, fun order other => ?_, fun order => ?_⟩
    · simp [wrapPlan, order, sync, native, block]
    · rw [wrapPlan, order]
      exact if_neg (by simpa [and_assoc] using other)
    · rw [wrapPlan, order]

end Sys2Proof.Machine

/-!
The burst turn (R55, R57, R59, R60): the scan passes over the entries that an earlier conflicting context holds, and the turn
goes to the first that none holds.
-/

namespace Sys2Proof.Machine

/-! ## Writers and conflicts -/

theorem writer_iff (c : Context) : c.writer = true ↔ c.stage = .main ∧
    (c.kind = .write ∨ c.kind = .compareSwap ∨ c.kind = .append ∨ c.kind = .journalRestart ∨ c.kind = .cursorWrite) := by
  unfold Context.writer
  cases c.stage
  · cases c.kind <;> simp
  · cases c.kind <;> simp

theorem heldBy_iff (c e : Context) : c.heldBy e = true ↔
    (∃ a, c.first ≤ a ∧ a < c.last ∧ e.first ≤ a ∧ a < e.last) ∧ (c.writer = true ∨ e.writer = true) := by
  have shared : c.overlaps e = true ↔ ∃ a, c.first ≤ a ∧ a < c.last ∧ e.first ≤ a ∧ a < e.last := by
    rw [Context.overlaps, decide_eq_true_eq]
    constructor
    · intro h
      exact ⟨max c.first e.first, by omega, by omega, by omega, by omega⟩
    · rintro ⟨a, cLow, cHigh, eLow, eHigh⟩
      omega
  rw [Context.heldBy, Bool.and_eq_true, Bool.or_eq_true, shared]

/-! ## The scan -/

section
variable {s : State} {queue : List CtxId}

theorem held_iff (k : Nat) (i : CtxId) :
    s.held queue k i = true ↔ ∃ j ∈ queue.take k, (s.ctx i).heldBy (s.ctx j) = true := by
  simp [State.held]

theorem firstEligible_eq_find? (l : List (Nat × CtxId)) :
    s.firstEligible queue l = l.find? fun x => !s.held queue x.1 x.2 := by
  induction l with
  | nil => rfl
  | cons x l ih =>
    rw [State.firstEligible, List.find?_cons, ih]
    cases s.held queue x.1 x.2 <;> rfl

theorem firstEligible_eq_none {l : List (Nat × CtxId)} (all : ∀ k i, (k, i) ∈ l → s.held queue k i = true) :
    s.firstEligible queue l = none := by
  rw [firstEligible_eq_find?, List.find?_eq_none]
  rintro ⟨k, i⟩ hx
  simp [all k i hx]

theorem firstEligible_eq_some {as bs : List (Nat × CtxId)} {k : Nat} {i : CtxId} (free : ¬s.held queue k i = true)
    (before : ∀ k i, (k, i) ∈ as → s.held queue k i = true) :
    s.firstEligible queue (as ++ (k, i) :: bs) = some (k, i) := by
  rw [firstEligible_eq_find?, List.find?_eq_some_iff_append]
  refine ⟨by simpa using free, as, bs, rfl, ?_⟩
  rintro ⟨k', i'⟩ hx
  simp [before k' i' hx]

theorem take_cons_drop {α : Type} {l : List α} {k : Nat} {x : α} (h : l[k]? = some x) :
    l = l.take k ++ x :: l.drop (k + 1) := by
  obtain ⟨lt, e⟩ := List.getElem?_eq_some_iff.mp h
  rw [← e, List.cons_getElem_drop_succ, List.take_append_drop]

theorem mem_take_places {n k : Nat} {i : CtxId} (h : (k, i) ∈ (queue.mapIdx fun k i => (k, i)).take n) :
    queue[k]? = some i ∧ k < n := by
  obtain ⟨m, hm⟩ := List.mem_iff_getElem?.mp h
  rw [List.getElem?_take] at hm
  split at hm
  case isTrue lt =>
    rw [List.getElem?_mapIdx, Option.map_eq_some_iff] at hm
    obtain ⟨j, hj, e⟩ := hm
    obtain ⟨rfl, rfl⟩ := Prod.mk.inj e
    exact ⟨hj, lt⟩
  case isFalse => cases hm

theorem mem_drop_places {n k : Nat} {i : CtxId} (h : (k, i) ∈ (queue.mapIdx fun k i => (k, i)).drop n) :
    queue[k]? = some i ∧ n ≤ k := by
  obtain ⟨m, hm⟩ := List.mem_iff_getElem?.mp h
  rw [List.getElem?_drop, List.getElem?_mapIdx, Option.map_eq_some_iff] at hm
  obtain ⟨j, hj, e⟩ := hm
  obtain ⟨rfl, rfl⟩ := Prod.mk.inj e
  exact ⟨hj, Nat.le_add_right ..⟩

/-- What stands before place `k` in the scan from the turn pointer: the places from the pointer to `k`, or, where `k` is
before the pointer, those from the pointer to the tail and those from the head to `k`. -/
theorem scanOrder_split {turn k : Nat} {i : CtxId} (hi : queue[k]? = some i) :
    ∃ as bs, scanOrder queue turn = as ++ (k, i) :: bs ∧ ∀ k' i', (k', i') ∈ as → queue[k']? = some i' ∧
      ((turn ≤ k ∧ turn ≤ k' ∧ k' < k) ∨ (k < turn ∧ (turn ≤ k' ∨ k' < k))) := by
  have place : (queue.mapIdx fun k i => (k, i))[k]? = some (k, i) := by rw [List.getElem?_mapIdx, hi]; rfl
  have lt := (List.getElem?_eq_some_iff.mp place).1
  unfold scanOrder
  dsimp only
  by_cases after : turn ≤ k
  · refine ⟨((queue.mapIdx fun k i => (k, i)).take k).drop turn,
      (queue.mapIdx fun k i => (k, i)).drop (k + 1) ++ (queue.mapIdx fun k i => (k, i)).take turn, ?_, fun k' i' h => ?_⟩
    · have drop : (queue.mapIdx fun k i => (k, i)).drop turn =
          ((queue.mapIdx fun k i => (k, i)).take k).drop turn ++
            (k, i) :: (queue.mapIdx fun k i => (k, i)).drop (k + 1) := by
        conv_lhs => rw [take_cons_drop place]
        rw [List.drop_append_of_le_length (by rw [List.length_take]; omega)]
      rw [drop, List.append_assoc, List.cons_append]
    · obtain ⟨hq, below⟩ := mem_take_places (List.mem_of_mem_drop h)
      rw [List.drop_take] at h
      obtain ⟨-, above⟩ := mem_drop_places (List.mem_of_mem_take h)
      exact ⟨hq, .inl ⟨after, above, below⟩⟩
  · refine ⟨(queue.mapIdx fun k i => (k, i)).drop turn ++ (queue.mapIdx fun k i => (k, i)).take k,
      ((queue.mapIdx fun k i => (k, i)).take turn).drop (k + 1), ?_, fun k' i' h => ?_⟩
    · have take : (queue.mapIdx fun k i => (k, i)).take turn =
          (queue.mapIdx fun k i => (k, i)).take k ++
            (k, i) :: ((queue.mapIdx fun k i => (k, i)).take turn).drop (k + 1) := by
        have inside : ((queue.mapIdx fun k i => (k, i)).take turn)[k]? = some (k, i) := by
          rw [List.getElem?_take, if_pos (by omega), place]
        conv_lhs => rw [take_cons_drop inside, List.take_take, Nat.min_eq_left (by omega)]
      rw [List.append_assoc, ← take]
    · obtain h | h := List.mem_append.mp h
      · obtain ⟨hq, above⟩ := mem_drop_places h
        exact ⟨hq, .inr ⟨by omega, .inl above⟩⟩
      · obtain ⟨hq, below⟩ := mem_take_places h
        exact ⟨hq, .inr ⟨by omega, .inr below⟩⟩

end

/-! ## The turn -/

section
variable {s : State} {r : RegionId}

theorem takeTurn_idle (h : (s.region r).state ≠ .online ∨ (s.region r).burst ≠ none) : s.takeTurn r = s := by
  rw [State.takeTurn, if_neg (not_and_or.mpr h)]

theorem takeTurn_patrol (online : (s.region r).state = .online) (free : (s.region r).burst = none)
    (due : (s.region r).due = true) (run : s.mode = .run) : s.takeTurn r = s.turnPatrol r := by
  rw [State.takeTurn, if_pos ⟨online, free⟩, if_pos ⟨due, run⟩]

theorem takeTurn_none (online : (s.region r).state = .online) (free : (s.region r).burst = none)
    (noPatrol : ¬((s.region r).due = true ∧ s.mode = .run)) (none : s.nextTurn r = none) : s.takeTurn r = s := by
  rw [State.takeTurn, if_pos ⟨online, free⟩, if_neg noPatrol, none]

theorem takeTurn_context {k : Nat} {i : CtxId} (online : (s.region r).state = .online) (free : (s.region r).burst = none)
    (noPatrol : ¬((s.region r).due = true ∧ s.mode = .run)) (next : s.nextTurn r = some (k, i)) :
    s.takeTurn r = s.turnCtx r k i := by
  rw [State.takeTurn, if_pos ⟨online, free⟩, if_neg noPatrol, next]

theorem nextTurn_eq_some {k : Nat} {i : CtxId} (hi : (s.region r).queue[k]? = some i)
    (free : ¬s.held (s.region r).queue k i = true)
    (before : ∀ k' i', (s.region r).queue[k']? = some i' →
      ((s.region r).turn ≤ k ∧ (s.region r).turn ≤ k' ∧ k' < k) ∨
        (k < (s.region r).turn ∧ ((s.region r).turn ≤ k' ∨ k' < k)) → s.held (s.region r).queue k' i' = true) :
    s.nextTurn r = some (k, i) := by
  obtain ⟨as, bs, e, mem⟩ := scanOrder_split (turn := (s.region r).turn) hi
  rw [State.nextTurn, e]
  exact firstEligible_eq_some free fun k' i' h => before k' i' (mem k' i' h).1 (mem k' i' h).2

theorem nextTurn_eq_none (all : ∀ k i, (s.region r).queue[k]? = some i → s.held (s.region r).queue k i = true) :
    s.nextTurn r = none :=
  firstEligible_eq_none fun k i h => all k i (mem_scanOrder h)

theorem turnCtx_context {i : CtxId} (k : Nat) (fault : s.contextFaults i = true) :
    s.turnCtx r k i = s.faultAt .context (.context i) := by
  rw [State.turnCtx, if_pos fault]

theorem turnCtx_table {i : CtxId} (k : Nat) (sound : s.contextFaults i = false)
    (fault : (s.profileFaults r { clock := true, timing := true, patrol := false }).any = true) :
    s.turnCtx r k i =
      s.faultAt .table (.profile r (s.profileFaults r { clock := true, timing := true, patrol := false })) := by
  rw [State.turnCtx, if_neg (by simp [sound])]
  exact if_pos fault

theorem turnCtx_sound {i : CtxId} (k : Nat) (sound : s.contextFaults i = false)
    (noFault : (s.profileFaults r { clock := true, timing := true, patrol := false }).any = false) :
    s.turnCtx r k i = s.issueCtx r k i := by
  rw [State.turnCtx, if_neg (by simp [sound])]
  exact if_neg (by simp [noFault])

theorem issueCtx_cons {i : CtxId} (k : Nat) {pc : Piece} {rest : List Piece}
    (plan : (s.ctx i).pieces.getD ((s.ctx i).plan (s.region r).clock (s.region r).timing) = pc :: rest) :
    s.issueCtx r k i =
      (s.setCtx i { (s.ctx i).openAccess with state := .serving, pieces := some rest, parityOk := true }).setRegion r
        { (s.region r).issue (.ctx i) pc (s.ctx i).access.write
            (if (s.ctx i).access.write then (List.range pc.len).map fun j => (s.ctx i).datum (pc.addr + j) else []) with
          turn := k + 1 } := by
  simp only [State.issueCtx, plan]

theorem turnPatrol_table (fault : (s.profileFaults r { clock := true, timing := true, patrol := true }).any = true) :
    s.turnPatrol r =
      s.faultAt .table (.profile r (s.profileFaults r { clock := true, timing := true, patrol := true })) :=
  if_pos fault

theorem turnPatrol_sound {pc : Piece} {rest : List Piece}
    (noFault : (s.profileFaults r { clock := true, timing := true, patrol := true }).any = false)
    (plan : (s.region r).openPatrol.rest = pc :: rest) :
    s.turnPatrol r = s.setRegion r
      { (s.region r).issue .patrol pc false [] with patrolRead := some { (s.region r).openPatrol with rest := rest } } := by
  simp only [State.turnPatrol, plan, noFault, Bool.false_eq_true, if_false]

end

theorem openAccess_first {c : Context} (first : c.pieces = none) (kind : c.kind = .append ∨ c.kind = .journalRestart) :
    c.openAccess = { c with length := c.access.len, progress := 0, scratch := [] } := by
  unfold Context.openAccess
  obtain kind | kind := kind <;> rw [first, kind]

theorem openAccess_kept {c : Context} (h : c.pieces ≠ none ∨ (c.kind ≠ .append ∧ c.kind ≠ .journalRestart)) :
    c.openAccess = c := by
  unfold Context.openAccess
  split
  case h_1 none append => exact (h.elim (· none) fun h => h.1 append).elim
  case h_2 none restart => exact (h.elim (· none) fun h => h.2 restart).elim
  case h_3 => rfl

/-- Settles O38: whose turn it is, by the scan, and then the check points and the issue of its next burst. -/
theorem burstTurn : Obligations.BurstTurn := by
  refine ⟨writer_iff, heldBy_iff, fun s r => ?_⟩
  dsimp only
  simp only [← held_iff]
  refine ⟨takeTurn_idle, fun online free noPatrol all => takeTurn_none online free noPatrol (nextTurn_eq_none all),
    fun k i next fault => ?_, fun k i next sound fault => ?_, fun k i pc rest next sound noFault plan => ?_,
    fun ⟨online, free, due, run⟩ fault => ?_, fun pr pc rest ⟨online, free, due, run⟩ noFault hpr plan => ?_,
    fun c => ⟨openAccess_first, openAccess_kept⟩⟩
  · obtain ⟨online, free, noPatrol, place, noneHolds, before⟩ := next
    rw [takeTurn_context online free noPatrol (nextTurn_eq_some place noneHolds before), turnCtx_context k fault]
  · obtain ⟨online, free, noPatrol, place, noneHolds, before⟩ := next
    rw [takeTurn_context online free noPatrol (nextTurn_eq_some place noneHolds before), turnCtx_table k sound fault]
  · obtain ⟨online, free, noPatrol, place, noneHolds, before⟩ := next
    rw [takeTurn_context online free noPatrol (nextTurn_eq_some place noneHolds before), turnCtx_sound k sound noFault,
      issueCtx_cons k plan]
    rfl
  · rw [takeTurn_patrol online free due run, turnPatrol_table fault]
  · have hpr' : (s.region r).openPatrol = pr := hpr.symm
    rw [takeTurn_patrol online free due run, turnPatrol_sound noFault (hpr' ▸ plan), hpr']
    rfl

end Sys2Proof.Machine

/-!
Write bursts on attached memory (R30, R62, R134): a cell is a byte with its parity. A lane writes one cell, a word the cells of
its enabled lanes, and a burst the cells of the words its device has taken.
-/

namespace Sys2Proof.Machine

/-- The byte of an address with its parity. -/
def Memory.cell (m : Memory) (x : Nat) : Byte × Bool := (m.byte x, m.parityAt x)

theorem byteAddr_inj {r : RegionId} {a b k l : Nat} (hk : k < 4) (hl : l < 4) (h : byteAddr r a k = byteAddr r b l) :
    a = b ∧ k = l := by
  simp only [byteAddr] at h
  omega

/-! ## One lane -/

section
variable {m : Memory} (hm : m.wf = true)
include hm

theorem cell_setByte_same (x : Nat) (v : Byte) (par : Bool) : (m.setByte x v par).cell x = (v, par) := by
  refine Prod.ext (byte_setByte_same hm x v par) ?_
  obtain ⟨-, -, sorted⟩ := (wf_iff m).mp hm
  cases par
  · simp [Memory.cell, Memory.parityAt, Memory.setByte, mem_eraseAddr _ _ sorted]
  · simp [Memory.cell, Memory.parityAt, Memory.setByte, mem_insertAddr]

theorem cell_setByte_ne {x y : Nat} (v : Byte) (par : Bool) (h : y ≠ x) : (m.setByte x v par).cell y = m.cell y := by
  refine Prod.ext (byte_setByte_ne m v par h) ?_
  obtain ⟨-, -, sorted⟩ := (wf_iff m).mp hm
  cases par
  · simp [Memory.cell, Memory.parityAt, Memory.setByte, mem_eraseAddr _ _ sorted, h]
  · simp [Memory.cell, Memory.parityAt, Memory.setByte, mem_insertAddr, h]

theorem cell_writeLane_same {r : RegionId} {a k : Nat} {d : Word × BitVec 4} {par : Bool} (on : d.2.getLsbD k = true) :
    (m.writeLane r a k d par).cell (byteAddr r a k) = (lane d.1 k, par) := by
  rw [Memory.writeLane, if_pos on, cell_setByte_same hm]

theorem cell_writeLane_other {r : RegionId} {a k x : Nat} {d : Word × BitVec 4} {par : Bool}
    (h : d.2.getLsbD k = true → x ≠ byteAddr r a k) : (m.writeLane r a k d par).cell x = m.cell x := by
  unfold Memory.writeLane
  split
  case isTrue on => exact cell_setByte_ne hm _ _ (h on)
  case isFalse => rfl

/-! ## One word -/

/-- Lanes written one after another leave every cell but those of their enabled lanes. -/
theorem cell_writeLanes_other {r : RegionId} {a x : Nat} {d : Word × BitVec 4} {par : Bool} (ks : List Nat)
    (h : ∀ k ∈ ks, d.2.getLsbD k = true → x ≠ byteAddr r a k) :
    (ks.foldl (fun m k => m.writeLane r a k d par) m).cell x = m.cell x := by
  induction ks generalizing m with
  | nil => rfl
  | cons k ks ih =>
    rw [List.foldl_cons, ih (wf_writeLane hm r a k d par) fun j hj => h j (List.mem_cons_of_mem k hj),
      cell_writeLane_other hm (h k List.mem_cons_self)]

theorem cell_writeWord_other {r : RegionId} {a x : Nat} {d : Word × BitVec 4} {par : Bool}
    (h : ∀ k < 4, d.2.getLsbD k = true → x ≠ byteAddr r a k) : (m.writeWord r a d par).cell x = m.cell x :=
  cell_writeLanes_other hm [0, 1, 2, 3] fun k hk => h k (by simp at hk; omega)

theorem cell_writeLanes_same {r : RegionId} {a k : Nat} {d : Word × BitVec 4} {par : Bool} {ks : List Nat}
    (small : ∀ j ∈ ks, j < 4) (distinct : ks.Nodup) (hk : k ∈ ks) (on : d.2.getLsbD k = true) :
    (ks.foldl (fun m k => m.writeLane r a k d par) m).cell (byteAddr r a k) = (lane d.1 k, par) := by
  induction ks generalizing m with
  | nil => cases hk
  | cons j ks ih =>
    obtain ⟨fresh, distinct⟩ := List.nodup_cons.mp distinct
    have hm' := wf_writeLane hm r a j d par
    rw [List.foldl_cons]
    obtain rfl | hk' := List.mem_cons.mp hk
    · rw [cell_writeLanes_other hm' ks fun i hi _ e => fresh ?_, cell_writeLane_same hm on]
      obtain ⟨-, rfl⟩ := byteAddr_inj (small k hk) (small i (List.mem_cons_of_mem k hi)) e
      exact hi
    · exact ih hm' (fun i hi => small i (List.mem_cons_of_mem j hi)) distinct hk'

theorem cell_writeWord_same {r : RegionId} {a k : Nat} {d : Word × BitVec 4} {par : Bool} (hk : k < 4)
    (on : d.2.getLsbD k = true) : (m.writeWord r a d par).cell (byteAddr r a k) = (lane d.1 k, par) :=
  cell_writeLanes_same hm (ks := [0, 1, 2, 3]) (by decide) (by decide) (by simp; omega) on

/-! ## A burst -/

/-- The words left of a burst change no cell but those of their taken, enabled lanes. -/
theorem cell_landFrom_other {b : Burst} {r : RegionId} {taken : Nat → Bool} {n x : Nat} {as : List Nat}
    {ds : List (Word × BitVec 4)}
    (h : ∀ (j a : Nat) (d : Word × BitVec 4), as[j]? = some a → ds[j]? = some d → taken (n + j) = true →
      ∀ k < 4, d.2.getLsbD k = true → x ≠ byteAddr r a k) : (b.landFrom r taken n as ds m).cell x = m.cell x := by
  induction as generalizing n ds m with
  | nil => cases ds <;> rfl
  | cons a as ih =>
    cases ds with
    | nil => rfl
    | cons d ds =>
      have rest (j a' : Nat) (d' : Word × BitVec 4) (ha : as[j]? = some a') (hd : ds[j]? = some d')
          (ht : taken (n + 1 + j) = true) : ∀ k < 4, d'.2.getLsbD k = true → x ≠ byteAddr r a' k :=
        h (j + 1) a' d' ha hd (by rwa [Nat.add_right_comm] at ht)
      rw [Burst.landFrom]
      split
      case isTrue on =>
        rw [ih (wf_writeWord hm r a d _) rest]
        exact cell_writeWord_other hm (h 0 a d rfl rfl (by simpa using (Bool.and_eq_true_iff.mp on).1))
      case isFalse => exact ih hm rest

/-- A taken word of a burst lands in the cells of its enabled lanes. -/
theorem cell_landFrom_same {b : Burst} {r : RegionId} {taken : Nat → Bool} {n j a k : Nat} {d : Word × BitVec 4}
    {as : List Nat} {ds : List (Word × BitVec 4)} (distinct : as.Nodup) (inside : ∀ a ∈ as, a < Config.regionWords)
    (ha : as[j]? = some a) (hd : ds[j]? = some d) (ht : taken (n + j) = true) (hk : k < 4) (on : d.2.getLsbD k = true) :
    (b.landFrom r taken n as ds m).cell (byteAddr r a k) = (lane d.1 k, b.clock.parityLane) := by
  induction as generalizing n j ds m with
  | nil => cases ha
  | cons a' as ih =>
    cases ds with
    | nil => cases hd
    | cons d' ds =>
      obtain ⟨fresh, distinct⟩ := List.nodup_cons.mp distinct
      rw [Burst.landFrom]
      cases j with
      | zero =>
        obtain rfl := Option.some.inj ha
        obtain rfl := Option.some.inj hd
        have room := inside a' List.mem_cons_self
        rw [if_pos (by simp [room, show taken n = true from ht]), cell_landFrom_other (wf_writeWord hm r a' d' _),
          cell_writeWord_same hm hk on]
        intro i b' e hb _ _ l hl _ same
        obtain ⟨rfl, -⟩ := byteAddr_inj hk hl same
        exact fresh (List.mem_of_getElem? hb)
      | succ j =>
        have wf : (if taken n && decide (a' < Config.regionWords) then m.writeWord r a' d' b.clock.parityLane
            else m).wf = true := by
          split
          · exact wf_writeWord hm r a' d' _
          · exact hm
        exact ih wf distinct (fun x hx => inside x (List.mem_cons_of_mem a' hx)) ha hd
          (by rwa [Nat.add_right_comm, Nat.add_assoc])

end

section
variable {b : Burst}

theorem addrs_linear (linear : b.wrap = false) : b.addrs = (List.range b.len).map fun k => b.addr + k := by
  simp [Burst.addrs, linear]

theorem getElem?_addrs_linear (linear : b.wrap = false) {k : Nat} :
    b.addrs[k]? = if k < b.len then some (b.addr + k) else none := by
  rw [addrs_linear linear, List.getElem?_map]
  split
  case isTrue lt => rw [List.getElem?_range lt]; rfl
  case isFalse ge => rw [List.getElem?_eq_none (by simpa using ge)]; rfl

theorem addrs_nodup (linear : b.wrap = false) : b.addrs.Nodup := by
  rw [addrs_linear linear]
  exact List.nodup_range.map fun i j h => Nat.add_left_cancel h

theorem addrs_inRange (inRange : b.inRange = true) : ∀ a ∈ b.addrs, a < Config.regionWords := by
  simpa [Burst.inRange] using inRange

variable {r : RegionId} {taken : Nat → Bool} {m : Memory} (hm : m.wf = true) (write : b.write = true)
include hm write

theorem cell_land_same (linear : b.wrap = false) (inRange : b.inRange = true) {k l : Nat} {d : Word × BitVec 4}
    (lt : k < b.len) (hd : b.data[k]? = some d) (ht : taken k = true) (hl : l < 4) (on : d.2.getLsbD l = true) :
    (b.land r taken m).cell (byteAddr r (b.addr + k) l) = (lane d.1 l, b.clock.parityLane) := by
  rw [Burst.land, if_pos write]
  exact cell_landFrom_same hm (addrs_nodup linear) (addrs_inRange inRange) (by rw [getElem?_addrs_linear linear, if_pos lt])
    hd (by rwa [Nat.zero_add]) hl on

theorem cell_land_other (linear : b.wrap = false) {x : Nat}
    (h : ∀ (k : Nat) (d : Word × BitVec 4), k < b.len → b.data[k]? = some d → taken k = true →
      ∀ l < 4, d.2.getLsbD l = true → x ≠ byteAddr r (b.addr + k) l) : (b.land r taken m).cell x = m.cell x := by
  rw [Burst.land, if_pos write]
  refine cell_landFrom_other hm fun k a d ha hd ht => ?_
  rw [getElem?_addrs_linear linear] at ha
  split at ha
  case isTrue lt =>
    obtain rfl := Option.some.inj ha
    exact h k d lt hd (by rwa [Nat.zero_add] at ht)
  case isFalse => cases ha

end

/-- Settles O39. -/
theorem writeBurstStoresWords : Obligations.WriteBurstStoresWords := by
  intro b r taken m
  refine ⟨fun read => by rw [Burst.land, if_neg (by simp [read])], fun hm write linear inRange length =>
    ⟨wf_land b r taken hm, fun k w e hd ht => ?_, fun x outside => ?_⟩⟩
  · have lt : k < b.len := length ▸ (List.getElem?_eq_some_iff.mp hd).1
    have stored (l : Nat) (hl : l < 4) (on : e.getLsbD l = true) :
        (b.land r taken m).cell (byteAddr r (b.addr + k) l) = (lane w l, b.clock.parityLane) :=
      cell_land_same hm write linear inRange lt hd ht hl on
    refine ⟨fun l hl on => Prod.ext_iff.mp (stored l hl on), fun l hl off => ?_, ?_⟩
    · refine congrArg Prod.fst (cell_land_other hm write linear fun k' d _ hd' _ l' hl' on same => ?_)
      obtain ⟨addr, rfl⟩ := byteAddr_inj hl hl' same
      obtain rfl : k = k' := by omega
      obtain rfl := Option.some.inj (hd.symm.trans hd')
      exact Bool.false_ne_true (off.symm.trans on)
    · rintro rfl
      have byte (l : Nat) (hl : l < 4) (on : (15#4).getLsbD l = true) :
          (b.land r taken m).byte (byteAddr r (b.addr + k) l) = lane w l := congrArg Prod.fst (stored l hl on)
      rw [Memory.readWord, byte 0 (by decide) (by decide), byte 1 (by decide) (by decide), byte 2 (by decide) (by decide),
        byte 3 (by decide) (by decide), ofLanes_lanes]
  · exact Prod.ext_iff.mp (cell_land_other hm write linear fun k d lt _ ht l hl _ => outside k lt ht l hl)

end Sys2Proof.Machine

/-!
BURST_COMPLETION (R28, R29, R64): the words sampled over a read burst, what their placement leaves, and the branches of the
completion.
-/

namespace Sys2Proof.Machine

/-! ## Words sampled -/

theorem lane_ofLanes (b0 b1 b2 b3 : Byte) :
    lane (ofLanes b0 b1 b2 b3) 0 = b0 ∧ lane (ofLanes b0 b1 b2 b3) 1 = b1 ∧ lane (ofLanes b0 b1 b2 b3) 2 = b2 ∧
      lane (ofLanes b0 b1 b2 b3) 3 = b3 := by
  refine ⟨?_, ?_, ?_, ?_⟩ <;>
    refine BitVec.eq_of_getLsbD_eq fun i hi => ?_ <;>
    simp only [lane, ofLanes, BitVec.getLsbD_extractLsb', BitVec.getLsbD_append, hi, decide_true, Bool.true_and]
  · simp [hi]
  · simp [hi]
  · simp [hi, show ¬16 + i < 8 by omega, show ¬16 + i - 8 < 8 by omega, show 16 + i - 8 - 8 = i by omega]
  · simp [hi, show ¬24 + i < 8 by omega, show ¬24 + i - 8 < 8 by omega, show ¬24 + i - 8 - 8 < 8 by omega,
      show 24 + i - 8 - 8 - 8 = i by omega]

theorem lane_readWord (m : Memory) (r : RegionId) (a l : Nat) (hl : l < 4) :
    lane (m.readWord r a) l = m.byte (byteAddr r a l) := by
  obtain ⟨h0, h1, h2, h3⟩ := lane_ofLanes (m.byte (byteAddr r a 0)) (m.byte (byteAddr r a 1)) (m.byte (byteAddr r a 2))
    (m.byte (byteAddr r a 3))
  obtain rfl | rfl | rfl | rfl : l = 0 ∨ l = 1 ∨ l = 2 ∨ l = 3 := by omega
  · exact h0
  · exact h1
  · exact h2
  · exact h3

theorem wordParityOk_iff (m : Memory) (r : RegionId) (a : Nat) :
    m.wordParityOk r a = true ↔ ∀ l, l < 4 → m.parityAt (byteAddr r a l) = true := by
  simp only [Memory.wordParityOk, Bool.and_eq_true]
  constructor
  · rintro ⟨⟨⟨h0, h1⟩, h2⟩, h3⟩ l hl
    obtain rfl | rfl | rfl | rfl : l = 0 ∨ l = 1 ∨ l = 2 ∨ l = 3 := by omega
    · exact h0
    · exact h1
    · exact h2
    · exact h3
  · exact fun h => ⟨⟨⟨h 0 (by decide), h 1 (by decide)⟩, h 2 (by decide)⟩, h 3 (by decide)⟩

section
variable {b : Burst} {r : RegionId} {dev : List BusDeviation} {m : Memory}

theorem samples_write (write : b.write = true) : b.samples r dev m = [] := by rw [Burst.samples, if_pos write]

theorem length_samples (read : b.write = false) : (b.samples r dev m).length = b.len := by
  simp [Burst.samples, read, Burst.addrs]

theorem getElem?_samples (read : b.write = false) {k : Nat} (hk : k < b.len) :
    (b.samples r dev m)[k]? =
      some (if b.wrap then b.addr - b.addr % b.len + (b.addr % b.len + k) % b.len else b.addr + k,
        sampleWord m r dev k
          (if b.wrap then b.addr - b.addr % b.len + (b.addr % b.len + k) % b.len else b.addr + k)) := by
  simp [Burst.samples, read, Burst.addrs, List.getElem?_mapIdx, List.getElem?_map, List.getElem?_range hk]

theorem sampleWord_deviation {d : BusDeviation} {k : Nat} (a : Nat) (h : dev.find? (fun d => d.index == k) = some d) :
    sampleWord m r dev k a = (d.seen, d.parityOk) := by
  rw [sampleWord, h]

theorem sampleWord_memory {k : Nat} (a : Nat) (h : ∀ d ∈ dev, d.index ≠ k) :
    sampleWord m r dev k a = (m.readWord r a, m.wordParityOk r a) := by
  have none : dev.find? (fun d => d.index == k) = none := List.find?_eq_none.mpr fun d hd => by simpa using h d hd
  rw [sampleWord, none]

end

/-! ## Words placed -/

theorem getElem?_foldl_set_ne {α β : Type} (pos : α → Nat) {ws : List (α × β)} (l : List β) {k : Nat}
    (elsewhere : ∀ w ∈ ws, pos w.1 ≠ k) : (ws.foldl (fun l w => l.set (pos w.1) w.2) l)[k]? = l[k]? := by
  induction ws generalizing l with
  | nil => rfl
  | cons w ws ih =>
    rw [List.foldl_cons, ih _ fun v hv => elsewhere v (List.mem_cons_of_mem w hv),
      List.getElem?_set_ne (elsewhere w List.mem_cons_self)]

section
variable {c : Context} {b : Burst} {r : RegionId} {m : Memory}

theorem place_result (other : c.kind ≠ .append) (linear : c.wrap = none) (ws : List (Nat × Word)) :
    (c.place ws).result = ws.foldl (fun l w => l.set (w.1 - c.addr) w.2) c.result := by
  simp [Context.place, other, Context.position, linear]

/-- The words that a linear read burst carries, where the device puts nothing else on the bus. -/
theorem samples_linear (read : b.write = false) (wrap : b.wrap = false) :
    ((b.samples r [] m).map fun w => (w.1, w.2.1)) =
      (List.range b.len).map fun k => (b.addr + k, m.readWord r (b.addr + k)) := by
  refine List.ext_getElem? fun k => ?_
  rw [List.getElem?_map, List.getElem?_map]
  by_cases hk : k < b.len
  · rw [getElem?_samples read hk, List.getElem?_range hk, sampleWord_memory _ (by simp)]
    simp [wrap]
  · rw [List.getElem?_eq_none (by rw [length_samples read]; omega), List.getElem?_eq_none (by simpa using hk)]
    rfl

theorem place_read (other : c.kind ≠ .append) (linear : c.wrap = none) (read : b.write = false) (wrap : b.wrap = false)
    (low : c.addr ≤ b.addr) (room : b.addr - c.addr + b.len ≤ c.result.length) (k : Nat) :
    let t := c.place ((b.samples r [] m).map fun w => (w.1, w.2.1))
    (k < b.len → t.result.getD (b.addr + k - c.addr) 0 = m.readWord r (b.addr + k)) ∧
      (k < b.addr - c.addr ∨ b.addr - c.addr + b.len ≤ k → t.result.getD k 0 = c.result.getD k 0) := by
  dsimp only
  rw [place_result other linear, samples_linear read wrap]
  refine ⟨fun hk => ?_, fun outside => ?_⟩
  · rw [List.getD_eq_getElem?_getD, getElem?_foldl_set (fun a => a - c.addr) (x := m.readWord r (b.addr + k)) (by omega)]
    · rfl
    · exact ⟨_, List.mem_map.mpr ⟨k, List.mem_range.mpr hk, rfl⟩, rfl⟩
    · intro w hw same
      obtain ⟨j, hj, rfl⟩ := List.mem_map.mp hw
      have : j = k := by
        dsimp only at same
        omega
      rw [this]
  · rw [List.getD_eq_getElem?_getD, List.getD_eq_getElem?_getD, getElem?_foldl_set_ne (fun a => a - c.addr)]
    intro w hw
    obtain ⟨j, hj, rfl⟩ := List.mem_map.mp hw
    have lt := List.mem_range.mp hj
    dsimp only
    omega

end

/-! ## The completion -/

theorem Region.endBurst_eq_of_none {g : Region} (h : g.written = none) : g.endBurst = { g with burst := none } := by
  rw [Region.endBurst, Region.admitPatrol_of_quiet rfl, h]
  rfl

theorem Region.endBurst_eq_of_some {g : Region} {w : PatrolGroup} (h : g.written = some w) :
    g.endBurst = { g with burst := none, patrol := w, written := none } := by
  rw [Region.endBurst, Region.admitPatrol_of_quiet rfl, h]
  rfl

section
variable {s : State} {r : RegionId} {b : Burst} {samples : List (Nat × Word × Bool)}

theorem completeBurst_fault {a : Nat} (fault : s.memoryFault b samples = some a) :
    s.completeBurst r b samples = s.faultAt .memory (.memory r a) := by
  rw [State.completeBurst, fault]

theorem completeBurst_ctx {i : CtxId} (sound : s.memoryFault b samples = none) (owner : b.owner = .ctx i) :
    s.completeBurst r b samples =
      (s.contextCompletion i b (samples.map fun w => (w.1, w.2.1))).afterBurst r
        ((s.contextCompletion i b (samples.map fun w => (w.1, w.2.1))).movedTo i) := by
  rw [State.completeBurst, sound]
  dsimp only
  rw [owner]

theorem completeBurst_patrol (sound : s.memoryFault b samples = none) (owner : b.owner = .patrol) :
    s.completeBurst r b samples = (s.patrolCompletion r (samples.map fun w => w.2.1)).afterBurst r [] := by
  rw [State.completeBurst, sound]
  dsimp only
  rw [owner]

theorem place_pieces (c : Context) (ws : List (Nat × Word)) : (c.place ws).pieces = c.pieces ∧ (c.place ws).state = c.state := by
  unfold Context.place
  split <;> exact ⟨rfl, rfl⟩

theorem ctx_advance (i : CtxId) (ws : List (Nat × Word)) :
    ((s.advance i b ws).ctx i).pieces = (s.ctx i).pieces ∧ ((s.advance i b ws).ctx i).state = (s.ctx i).state := by
  rw [State.advance, ctx_setCtx]
  exact place_pieces (s.ctx i) ws

theorem contextCompletion_last {i : CtxId} (ws : List (Nat × Word)) (last : (s.ctx i).pieces = some []) :
    s.contextCompletion i b ws = (s.advance i b ws).accessEnd i :=
  if_pos ((ctx_advance i ws).1.trans last)

theorem contextCompletion_more {i : CtxId} (ws : List (Nat × Word)) (more : (s.ctx i).pieces ≠ some []) :
    s.contextCompletion i b ws = s.advance i b ws :=
  if_neg fun last => more ((ctx_advance i ws).1.symm.trans last)

variable {dev : List BusDeviation}

theorem exec_burstCompletion_idle (none : (s.region r).burst = none) : exec (.burstCompletion r dev) s = .next s := by
  rw [exec_burstCompletion, execBurstCompletion, none]

theorem exec_burstCompletion_waits (hb : (s.region r).burst = some b) (h : b.abandoned = true ∨ s.pins ≠ some r) :
    exec (.burstCompletion r dev) s = .next s := by
  rw [exec_burstCompletion, execBurstCompletion, hb]
  exact if_pos h

theorem exec_burstCompletion_beyond (hb : (s.region r).burst = some b) (pins : s.pins = some r) (live : b.abandoned = false)
    (beyond : b.inRange = false) : exec (.burstCompletion r dev) s = .fault .addressBeyondRegion := by
  rw [exec_burstCompletion, execBurstCompletion, hb]
  dsimp only
  rw [if_neg (by simp [pins, live]), if_pos beyond]

theorem exec_burstCompletion_done (hb : (s.region r).burst = some b) (pins : s.pins = some r) (live : b.abandoned = false)
    (inRange : b.inRange = true) :
    exec (.burstCompletion r dev) s =
      .next ((s.burstMoved r b fun _ => true).completeBurst r b (b.samples r dev s.mem)).finish := by
  rw [exec_burstCompletion, execBurstCompletion, hb]
  dsimp only
  rw [if_neg (by simp [pins, live]), if_neg (by simp [inRange])]

theorem memoryFault_burstMoved (taken : Nat → Bool) (c : Burst) :
    (s.burstMoved r b taken).memoryFault c samples = s.memoryFault c samples := rfl

end

/-- Settles O40: the branches of the completion, on the state with the burst off the bus and its words moved. -/
theorem burstCompletionAdvances : Obligations.BurstCompletionAdvances := by
  refine ⟨fun r dev b s hb => ?_, fun r dev s none => exec_burstCompletion_idle none,
    fun g => ⟨Region.endBurst_eq_of_none, fun w => Region.endBurst_eq_of_some⟩, fun b r dev m => ?_,
    fun m r a => ⟨wordParityOk_iff m r a, lane_readWord m r a⟩, fun c b r m k other linear read wrap low room =>
    place_read other linear read wrap low room k⟩
  · refine ⟨exec_burstCompletion_waits hb, exec_burstCompletion_beyond hb, fun a pins live inRange fault => ?_,
      fun i pins live inRange sound owner serving more => ?_, fun i last sound => ?_,
      fun pins live inRange sound owner => ?_⟩
    · rw [exec_burstCompletion_done hb pins live inRange, completeBurst_fault (by rwa [memoryFault_burstMoved])]
      rfl
    · rw [exec_burstCompletion_done hb pins live inRange, completeBurst_ctx (by rwa [memoryFault_burstMoved]) owner,
        contextCompletion_more _ (by exact more), State.movedTo, if_neg]
      · rfl
      · rw [(ctx_advance i _).2]
        exact fun waiting => nomatch serving.symm.trans waiting
    · obtain ⟨-, pins, live, inRange, owner, pieces⟩ := last
      rw [exec_burstCompletion_done hb pins live inRange, completeBurst_ctx (by rwa [memoryFault_burstMoved]) owner,
        contextCompletion_last _ (by exact pieces)]
      rfl
    · rw [exec_burstCompletion_done hb pins live inRange, completeBurst_patrol (by rwa [memoryFault_burstMoved]) owner]
      dsimp only
      rw [List.map_map]
      rfl
  · refine ⟨samples_write, fun read => ⟨length_samples read, fun k hk => ⟨fun d hd => ?_, fun none => ?_⟩⟩⟩
    · rw [getElem?_samples read hk, sampleWord_deviation _ hd]
    · rw [getElem?_samples read hk, sampleWord_memory _ none]

end Sys2Proof.Machine

/-!
The end of an access of a data request (R29, R30, R34, R113 to R117, R120): what each stage and request kind comes to, and the
words each step writes.
-/

namespace Sys2Proof.Machine

/-! ## The end of an access, by kind -/

section
variable {s : State} {i : CtxId} (main : (s.ctx i).stage = .main)
include main

theorem accessEnd_read (kind : (s.ctx i).kind = .read) :
    s.accessEnd i = s.endCtx i .ok ((s.ctx i).result.take (s.ctx i).length) := by
  simp only [State.accessEnd, main, kind]

theorem accessEnd_write (kind : (s.ctx i).kind = .write) : s.accessEnd i = s.endCtx i .ok [] := by
  simp only [State.accessEnd, main, kind]

theorem accessEnd_compareSwap (kind : (s.ctx i).kind = .compareSwap) :
    s.accessEnd i = s.settle i (s.ctx i).swapStep := by
  simp only [State.accessEnd, main, kind]

theorem accessEnd_append (kind : (s.ctx i).kind = .append) : s.accessEnd i = s.settle i (s.ctx i).appendStep := by
  simp only [State.accessEnd, main, kind]

theorem accessEnd_journalRestart (kind : (s.ctx i).kind = .journalRestart) :
    s.accessEnd i = s.settle i (s.ctx i).restartStep := by
  simp only [State.accessEnd, main, kind]

theorem accessEnd_cursor (kind : (s.ctx i).kind = .cursorRead ∨ (s.ctx i).kind = .cursorWrite) :
    s.accessEnd i = s.cursorCompletion i := by
  obtain kind | kind := kind <;> simp only [State.accessEnd, main, kind]

end

section
variable {c : Context}

theorem datum_write (kind : c.kind = .write) (a : Nat) : c.datum a = (c.payload.getD (a - c.addr) 0, 15#4) := by
  simp only [Context.datum, kind]

theorem datum_compareSwap (kind : c.kind = .compareSwap) (a : Nat) : c.datum a = (c.payload.getD 1 0, 15#4) := by
  simp only [Context.datum, kind]

theorem access_compareSwap (main : c.stage = .main) (kind : c.kind = .compareSwap) :
    c.access = { addr := c.addr, len := 1, write := decide (c.progress ≠ 0) } := by
  simp only [Context.access, main, kind]

theorem access_journalRestart (main : c.stage = .main) (kind : c.kind = .journalRestart) :
    c.access = c.restartAccess := by
  simp only [Context.access, main, kind]

theorem access_append (main : c.stage = .main) (kind : c.kind = .append) : c.access = c.appendAccess := by
  simp only [Context.access, main, kind]

end

/-- Settles O41. -/
theorem accessEndOfDataRequests : Obligations.AccessEndOfDataRequests := by
  intro s i
  dsimp only
  intro main
  refine ⟨accessEnd_read main, fun write => ⟨accessEnd_write main write, datum_write write⟩, fun swap => ?_,
    fun restart => ⟨fun fresh => ⟨?_, fun a => ?_, ?_⟩, fun anchor => ⟨?_, fun a => ?_, ?_⟩⟩⟩
  · rw [accessEnd_compareSwap main swap, Context.swapStep]
    refine ⟨fun first differs => ?_, fun first same => ?_, fun second => ?_, fun unread => ?_,
      fun first => ⟨?_, datum_compareSwap swap⟩⟩
    · rw [if_neg (not_not.mpr first), if_neg differs]
      rfl
    · rw [if_neg (not_not.mpr first), if_pos same]
      rfl
    · rw [if_pos (by omega)]
      rfl
    · rw [access_compareSwap main swap, unread]
      rfl
    · rw [access_compareSwap main swap, first]
      rfl
  · simp only [access_journalRestart main restart, Context.restartAccess, fresh]
  · simp only [Context.datum, restart, fresh]
    rfl
  · simp only [accessEnd_journalRestart main restart, Context.restartStep, fresh, State.settle]
  · simp only [access_journalRestart main restart, Context.restartAccess, anchor]
  · simp only [Context.datum, restart, anchor]
  · simp only [accessEnd_journalRestart main restart, Context.restartStep, anchor, State.settle]

/-! ## The append sequence -/

section
variable {c : Context} {limit : Nat} {w : Working}

theorem fitDecision_fits (fits : w.fill + 1 + c.payload.length ≤ w.size) :
    c.fitDecision limit w = c.goOn .recordWrite w := by
  rw [Context.fitDecision, if_pos fits]

theorem fitDecision_tooLarge (tight : ¬w.fill + 1 + c.payload.length ≤ w.size) (hopped : w.hopped = true) :
    c.fitDecision limit w = .ends .recordTooLarge [] := by
  rw [Context.fitDecision, if_neg tight, if_pos hopped]

theorem fitDecision_last (tight : ¬w.fill + 1 + c.payload.length ≤ w.size) (first : w.hopped = false) (last : w.next = 0) :
    c.fitDecision limit w = .ends .journalFull [] := by
  rw [Context.fitDecision, if_neg tight, if_neg (by simp [first]), if_pos last]

theorem fitDecision_next (tight : ¬w.fill + 1 + c.payload.length ≤ w.size) (first : w.hopped = false) (more : w.next ≠ 0) :
    c.fitDecision limit w = if headerFits limit w.next then c.goOn .sizeRead w else .ends .journalBroken [] := by
  rw [Context.fitDecision, if_neg tight, if_neg (by simp [first]), if_neg more]

variable (c)

theorem appendStep_anchorRead (step : c.step = .anchorRead) : c.appendStep =
    if headerFits (c.last - c.first) (offsetField (c.scratch.getD 0 0)) then
      c.goOn .headerRead { Working.ofResult c.result with c := offsetField (c.scratch.getD 0 0) }
    else .ends .journalBroken [] := by
  simp only [Context.appendStep, step]

/-- The working values once the header of the block has been read. -/
def Context.headerRead (c : Context) : Working :=
  { Working.ofResult c.result with
    fill := fillField (c.scratch.getD 0 0), s := lowHalf (c.scratch.getD 0 0), size := lowHalf (c.scratch.getD 1 0),
    next := offsetField (c.scratch.getD 2 0) }

theorem appendStep_headerRead (step : c.step = .headerRead) : c.appendStep =
    if 4 ≤ c.headerRead.size ∧ c.headerRead.c + c.headerRead.size ≤ c.last - c.first ∧ 3 ≤ c.headerRead.fill ∧
        c.headerRead.fill ≤ c.headerRead.size then c.fitDecision (c.last - c.first) c.headerRead
    else .ends .journalBroken [] := by
  simp only [Context.appendStep, step]
  rfl

theorem appendStep_sizeRead (step : c.step = .sizeRead) : c.appendStep =
    if 4 ≤ lowHalf (c.scratch.getD 0 0) ∧ (Working.ofResult c.result).next + lowHalf (c.scratch.getD 0 0) ≤ c.last - c.first
    then c.goOn .freshWrite { Working.ofResult c.result with size := lowHalf (c.scratch.getD 0 0) }
    else .ends .journalBroken [] := by
  simp only [Context.appendStep, step]

theorem appendStep_anchorWrite (step : c.step = .anchorWrite) : c.appendStep =
    c.fitDecision (c.last - c.first)
      { Working.ofResult c.result with c := (Working.ofResult c.result).next, fill := 3, hopped := true } := by
  simp only [Context.appendStep, step]

theorem appendStep_unread (step : c.step = .freshWrite ∨ c.step = .recordWrite ∨ c.step = .commit) : c.appendStep =
    if c.step = .freshWrite then c.goOn .anchorWrite (Working.ofResult c.result)
    else if c.step = .recordWrite then c.goOn .commit (Working.ofResult c.result)
    else .ends .ok [word (Working.ofResult c.result).s,
      word ((Working.ofResult c.result).c + (Working.ofResult c.result).fill)] := by
  obtain step | step | step := step <;> simp [Context.appendStep, step]

end

/-- Settles O42: each step's access and words are read off its row of Table 8-2, and its completion off its lemma. -/
theorem appendSteps : Obligations.AppendSteps := by
  refine ⟨fun w l hc hf hs hz hn => Working.ofResult_toResult ⟨hc, hf, hs, hz, hn⟩ l, fun s i main append =>
    ⟨fun c plan => ?_, fun st ws ends => ?_⟩, fun c => ?_⟩
  · rw [accessEnd_append main append, plan]
    rfl
  · rw [accessEnd_append main append, ends]
    rfl
  dsimp only
  intro main append
  have access := access_append main append
  refine ⟨fun step => ⟨?_, fun ok => ?_, fun bad => ?_⟩, fun step => ⟨?_, ?_⟩, fun step => ⟨?_, fun ok => ?_, fun bad => ?_⟩,
    fun step => ⟨?_, fun a => ?_, ?_⟩, fun step => ⟨?_, fun a => ?_, ?_⟩, fun step => ⟨?_, ?_, fun k => ?_, ?_⟩,
    fun step => ⟨?_, fun a => ?_, ?_⟩⟩
  · simp only [access, Context.appendAccess, step]
  · rw [appendStep_anchorRead c step, if_pos (by exact (headerFits_iff _ _).mpr ok)]
    rfl
  · rw [appendStep_anchorRead c step, if_neg (by exact fun ok => bad ((headerFits_iff _ _).mp ok))]
  · simp only [access, Context.appendAccess, step]
  · rw [appendStep_headerRead c step]
    refine ⟨fun bad => ?_, fun ok hfits => ?_, fun ok tight first last => ?_, fun ok tight first more hnext => ?_,
      fun ok tight first more hnext => ?_⟩
    · rw [if_neg (by exact bad)]
    · rw [if_pos (by exact ok), fitDecision_fits (by exact hfits)]
      rfl
    · rw [if_pos (by exact ok), fitDecision_last (by exact tight) (by exact first) (by exact last)]
    · rw [if_pos (by exact ok), fitDecision_next (by exact tight) (by exact first) (by exact more),
        if_pos (by exact (headerFits_iff _ _).mpr hnext)]
      rfl
    · rw [if_pos (by exact ok), fitDecision_next (by exact tight) (by exact first) (by exact more),
        if_neg (by exact fun h => hnext ((headerFits_iff _ _).mp h))]
  · simp only [access, Context.appendAccess, step]
  · rw [appendStep_sizeRead c step, if_pos (by exact ok)]
    rfl
  · rw [appendStep_sizeRead c step, if_neg (by exact bad)]
  · simp only [access, Context.appendAccess, step]
  · simp only [Context.datum, append, step]
    rfl
  · rw [appendStep_unread c (.inl step), if_pos step]
    rfl
  · simp only [access, Context.appendAccess, step]
  · simp only [Context.datum, append, step]
  · rw [appendStep_anchorWrite c step]
    exact ⟨fun hfits => fitDecision_fits hfits, fun tight => fitDecision_tooLarge tight rfl⟩
  · simp only [access, Context.appendAccess, step]
  · simp only [Context.datum, append, step, Nat.sub_self, List.getD_cons_zero]
    rfl
  · have place : c.addr + ((Working.ofResult c.result).c + (Working.ofResult c.result).fill) + 1 + k -
        (c.addr + ((Working.ofResult c.result).c + (Working.ofResult c.result).fill)) = k + 1 := by omega
    simp only [Context.datum, append, step, place, List.getD_cons_succ]
  · rw [appendStep_unread c (.inr (.inl step)), if_neg (by simp [step]), if_pos step]
    rfl
  · simp only [access, Context.appendAccess, step]
  · simp only [Context.datum, append, step]
    rfl
  · rw [appendStep_unread c (.inr (.inr step)), if_neg (by simp [step]), if_neg (by simp [step])]

end Sys2Proof.Machine

/-!
Cursor steps and links at their completion (R45 to R48, R129, R130): the item's lanes in its word, and the branches of the link's
seven checks.
-/

namespace Sys2Proof.Machine

/-! ## The item of a cursor step -/

theorem toNat_shiftRight_mask (w : Word) (n m : Nat) (hm : m < 32) :
    ((w >>> n) &&& BitVec.ofNat 32 (2 ^ m - 1)) = word (w.toNat / 2 ^ n % 2 ^ m) := by
  have lt : 2 ^ m < 2 ^ 32 := Nat.pow_lt_pow_right (by decide) hm
  refine BitVec.eq_of_toNat_eq ?_
  rw [BitVec.toNat_and, BitVec.toNat_ushiftRight, BitVec.toNat_ofNat, Nat.mod_eq_of_lt (by omega), Nat.shiftRight_eq_div_pow,
    Nat.and_two_pow_sub_one_eq_mod, toNat_word]
  exact (Nat.mod_lt _ (by positivity)).trans lt

/-- The lanes of a word shifted up by whole lanes. -/
theorem lane_shiftLeft (w : Word) {k j : Nat} (h : k + j < 4) : lane (w <<< (8 * k)) (k + j) = lane w j := by
  refine BitVec.eq_of_getLsbD_eq fun i hi => ?_
  simp only [lane, BitVec.getLsbD_extractLsb', BitVec.getLsbD_shiftLeft, hi, decide_true, Bool.true_and]
  rw [decide_eq_true (by omega : 8 * (k + j) + i < 32), decide_eq_false (by omega : ¬8 * (k + j) + i < 8 * k),
    show 8 * (k + j) + i - 8 * k = 8 * j + i by omega]
  simp

theorem itemLanes_two : ∀ at0 < 4, at0 % 2 = 0 → ∀ l < 4, ((itemLanes at0 2).getLsbD l = true ↔ l = at0 ∨ l = at0 + 1) := by
  decide

theorem itemLanes_one : ∀ at0 < 4, ∀ l < 4, ((itemLanes at0 1).getLsbD l = true ↔ l = at0) := by decide

section
variable {c : Context} (kind : c.kind = .cursorWrite) (k : Nat)
include kind

theorem datum_cursorWrite : c.datum (c.addr + k) = itemWrite c.curRounded c.curSize c.payload k := by
  simp only [Context.datum, kind, Nat.add_sub_cancel_left]

theorem datum_cursorWrite_words (size : c.curSize = 8 ∨ c.curSize = 4) :
    c.datum (c.addr + k) = (c.payload.getD k 0, 15#4) := by
  rw [datum_cursorWrite kind]
  obtain size | size := size <;> simp [itemWrite, itemLanes, size]

theorem datum_cursorWrite_part (size : c.curSize = 1 ∨ c.curSize = 2) :
    c.datum (c.addr + k) =
      (c.payload.getD k 0 <<< (8 * (c.curRounded % 4)), itemLanes (c.curRounded % 4) c.curSize) := by
  rw [datum_cursorWrite kind, itemWrite, if_pos size]

end

section
variable {s : State} {i : CtxId} (main : (s.ctx i).stage = .main)
include main

theorem accessEnd_cursorStep (kind : (s.ctx i).kind = .cursorRead ∨ (s.ctx i).kind = .cursorWrite) :
    s.accessEnd i =
      (s.setCursor (s.ctx i).source (s.ctx i).cursor
        { s.cursor (s.ctx i).source (s.ctx i).cursor with
          pos := (s.ctx i).curPos + (s.ctx i).curSize,
          count := (s.cursor (s.ctx i).source (s.ctx i).cursor).count - 1, inFlight := false }).endCtx i .ok
        ((s.ctx i).itemWords ++ [word ((s.ctx i).curPos + (s.ctx i).curSize),
          word ((s.cursor (s.ctx i).source (s.ctx i).cursor).count - 1)]) := by
  rw [accessEnd_cursor main kind]
  rfl

end

theorem itemWords_cursorWrite {c : Context} (kind : c.kind = .cursorWrite) : c.itemWords = [] := by
  simp only [Context.itemWords, kind]

theorem itemWords_cursorRead {c : Context} (kind : c.kind = .cursorRead) {lo hi : Word}
    (item : itemRead c.curRounded c.curSize (c.result.getD 0 0) (c.result.getD 1 0) = (lo, hi)) : c.itemWords = [lo, hi] := by
  simp only [Context.itemWords, kind, item]

/-- Settles O43. -/
theorem cursorStepCompletes : Obligations.CursorStepCompletes := by
  refine ⟨fun s i => ?_, fun c k => ?_⟩
  · dsimp only
    intro main
    refine ⟨fun write => ?_, fun read => ⟨fun size => ?_, fun size => ?_, fun size => ?_, fun size => ?_⟩⟩
    · rw [accessEnd_cursorStep main (.inr write), itemWords_cursorWrite write, List.nil_append]
    all_goals rw [accessEnd_cursorStep main (.inl read), itemWords_cursorRead read]
    · rfl
    · rw [itemRead, if_pos size]
    · rfl
    · rw [itemRead, if_neg (by omega), if_pos size]
    · rfl
    · rw [itemRead, if_neg (by omega), if_neg (by omega), if_pos size]
      exact congrArg (·, 0) (toNat_shiftRight_mask _ _ 16 (by decide))
    · rfl
    · rw [itemRead, if_neg (by omega), if_neg (by omega), if_neg (by omega)]
      exact congrArg (·, 0) (toNat_shiftRight_mask _ _ 8 (by decide))
  · dsimp only
    intro write
    have lt : c.curRounded % 4 < 4 := Nat.mod_lt _ (by decide)
    refine ⟨datum_cursorWrite_words write k, fun size first even => ?_, fun size first => ?_⟩
    · subst first
      rw [datum_cursorWrite_part write 0 (.inr size), size]
      exact ⟨itemLanes_two _ lt even, lane_shiftLeft _ (j := 0) (by omega), lane_shiftLeft _ (by omega)⟩
    · subst first
      rw [datum_cursorWrite_part write 0 (.inl size), size]
      exact ⟨itemLanes_one _ lt, lane_shiftLeft _ (j := 0) (by omega)⟩

/-! ## Link completion -/

theorem field_zero (w : Word) (n : Nat) : field w 0 n = w.toNat % 2 ^ n := by simp [field]

theorem flagBit_31_iff (w : Word) : flagBit w 31 = true ↔ 2147483648 ≤ w.toNat := by
  have lt := w.isLt
  simp only [flagBit, field, beq_iff_eq]
  omega

theorem linkTarget_eq (w : Word) : linkTarget w = Fin.ofNat 512 (w.toNat % 512) := by
  rw [linkTarget, field_zero]
  rfl

theorem weaker_linkRing (a : Ring) (w : Word) :
    weaker a (linkRing w) = if a.val ≤ w.toNat / 4096 % 4 then Fin.ofNat 4 (w.toNat / 4096 % 4) else a := by
  have val : (linkRing w).val = w.toNat / 4096 % 4 := by
    simp [linkRing, field]
  rw [weaker, val]
  rfl

section
variable {d : Descriptor} {k : ReqKind} (ring : Ring) (t n : Nat)

/-- On a DIRECT target the link's checks are those of a translation. -/
theorem linkRefusal_direct (hd : d.kind = .direct) (hk : k = .read ∨ k = .write ∨ k = .compareSwap) :
    linkRefusal d k ring t n = translateRequest d k ring t n := by
  have allowed : kindAllowed k d.kind = true := by
    rw [hd]
    obtain rfl | rfl | rfl := hk <;> rfl
  rw [translateRequest_words ring t n (.inl hd) allowed, linkRefusal, if_neg (by simp [hd]), if_neg (by simp [hd]),
    if_neg (by simp [hd])]
  cases d.inside k t n <;> cases d.admits k ring <;> rfl

theorem linkRefusal_absent (hd : d.kind = .absent) : linkRefusal d k ring t n = some .noSegment := by
  rw [linkRefusal, if_pos hd]

theorem linkRefusal_indirect (hd : d.kind = .indirect) : linkRefusal d k ring t n = some .indirectLoop := by
  rw [linkRefusal, if_neg (by simp [hd]), if_pos hd]

theorem linkRefusal_journal (hd : d.kind = .journal) : linkRefusal d k ring t n = some .kindMismatch := by
  rw [linkRefusal, if_neg (by simp [hd]), if_neg (by simp [hd]), if_pos hd]

end

section
variable {s : State} {i : CtxId}

theorem accessEnd_link (link : (s.ctx i).stage = .link) : s.accessEnd i = s.linkCompletion i := by
  simp only [State.accessEnd, link]

theorem linkCompletion_fault (flag : flagBit ((s.ctx i).result.getD 0 0) 31 = true) :
    s.linkCompletion i = s.endCtx i .pointerFault [word (lowHalf ((s.ctx i).result.getD 0 0))] :=
  if_pos flag

variable (sound : ¬flagBit ((s.ctx i).result.getD 0 0) 31 = true)
include sound

theorem linkCompletion_table (fault : s.segmentFaults (linkTarget ((s.ctx i).result.getD 0 0)) = true) :
    s.linkCompletion i = s.faultAt .table (.segment (linkTarget ((s.ctx i).result.getD 0 0))) := by
  rw [State.linkCompletion, if_neg sound, if_pos fault]

variable {d : Descriptor} {ring : Ring} {t : Nat}
  (noFault : s.segmentFaults (linkTarget ((s.ctx i).result.getD 0 0)) = false)
  (hd : s.segment (linkTarget ((s.ctx i).result.getD 0 0)) = d)
  (ht : field ((s.ctx i).result.getD 1 0) 0 24 + (s.ctx i).opOffset = t)
  (hr : weaker (s.ctx i).ring (linkRing ((s.ctx i).result.getD 0 0)) = ring)
include noFault hd ht hr

theorem linkCompletion_refused {st : Status} (refused : linkRefusal d (s.ctx i).kind ring t (s.ctx i).opLength = some st) :
    s.linkCompletion i = s.endCtx i st [] := by
  rw [State.linkCompletion, if_neg sound, if_neg (ne_true_of_eq_false noFault)]
  dsimp only
  rw [hd, ht, hr, refused]

theorem linkCompletion_passed (passed : linkRefusal d (s.ctx i).kind ring t (s.ctx i).opLength = none) :
    s.linkCompletion i =
      if (s.region d.region).state = .offline ∨ (s.region d.region).state = .training then s.endCtx i .regionOffline []
      else s.moveToTarget i d ring t := by
  rw [State.linkCompletion, if_neg sound, if_neg (ne_true_of_eq_false noFault)]
  dsimp only
  rw [hd, ht, hr, passed]

end

section
variable (e : Context) (d : Descriptor) (t n : Nat)

/-- What the resolution on a descriptor sets and keeps, for every request kind (R17, R26). -/
theorem resolve_frame : e.resolve d t n =
    { e with
      stage := .main, state := .waiting, region := d.region, addr := d.base + t, first := (e.resolve d t n).first,
      last := (e.resolve d t n).last, length := (e.resolve d t n).length, progress := 0,
      result := List.replicate 64 0, wrap := (e.resolve d t n).wrap, pieces := none, scratch := [], parityOk := true } := rfl

theorem resolve_read_linear (read : e.kind = .read) (linear : ¬(n = d.block ∧ 1 < d.block)) :
    (e.resolve d t n).first = d.base + t ∧ (e.resolve d t n).last = d.base + t + n ∧ (e.resolve d t n).length = n ∧
      (e.resolve d t n).wrap = none := by
  have none : d.wraps n = false := by simpa [Descriptor.wraps] using linear
  simp [Context.resolve, wrapOf, read, none]

theorem resolve_read_wrapped (read : e.kind = .read) (block : n = d.block) (pos : 1 < d.block) :
    (e.resolve d t n).first = d.base + t - (d.base + t) % n ∧
      (e.resolve d t n).last = d.base + t - (d.base + t) % n + n ∧ (e.resolve d t n).length = n ∧
      (e.resolve d t n).wrap =
        some { order := d.order, block := n, base := d.base + t - (d.base + t) % n, start := (d.base + t) % n } := by
  subst block
  have wraps : d.wraps d.block = true := by simp [Descriptor.wraps, pos]
  simp [Context.resolve, wrapOf, read, wraps, blockBase]

theorem resolve_write (write : e.kind = .write) :
    (e.resolve d t n).first = d.base + t ∧ (e.resolve d t n).last = d.base + t + n ∧ (e.resolve d t n).length = n ∧
      (e.resolve d t n).wrap = none := by
  simp [Context.resolve, write]

theorem resolve_compareSwap (swap : e.kind = .compareSwap) :
    (e.resolve d t n).first = d.base + t ∧ (e.resolve d t n).last = d.base + t + 1 ∧ (e.resolve d t n).length = 2 ∧
      (e.resolve d t n).wrap = none := by
  simp [Context.resolve, swap]

end

/-- Settles O44: the checks are the branches of `State.linkCompletion`, and the move is `Context.resolve` on the target. -/
theorem linkCompletion : Obligations.LinkCompletion := by
  intro s i
  dsimp only
  rw [← flagBit_31_iff, ← linkTarget_eq, ← weaker_linkRing, ← field_zero, ← not_le, ← flagBit_31_iff]
  intro link kind
  rw [accessEnd_link link]
  refine ⟨linkCompletion_fault, linkCompletion_table, fun sound noFault => ?_, fun e n => ?_⟩
  · refine ⟨fun absent => ?_, fun indirect => ?_, fun journal => ?_, fun st direct refused => ?_,
      fun direct passed closed => ?_, fun direct passed no nt => ?_⟩
    · exact linkCompletion_refused sound noFault rfl rfl rfl (linkRefusal_absent _ _ _ absent)
    · exact linkCompletion_refused sound noFault rfl rfl rfl (linkRefusal_indirect _ _ _ indirect)
    · exact linkCompletion_refused sound noFault rfl rfl rfl (linkRefusal_journal _ _ _ journal)
    · exact linkCompletion_refused sound noFault rfl rfl rfl ((linkRefusal_direct _ _ _ direct kind).trans refused)
    · rw [linkCompletion_passed sound noFault rfl rfl rfl ((linkRefusal_direct _ _ _ direct kind).trans passed),
        if_pos closed]
    · rw [linkCompletion_passed sound noFault rfl rfl rfl ((linkRefusal_direct _ _ _ direct kind).trans passed),
        if_neg (not_or.mpr ⟨no, nt⟩)]
      rfl
  · exact ⟨rfl, rfl, rfl, rfl, rfl, rfl, rfl, rfl, rfl, rfl, resolve_frame e _ _ n, resolve_read_linear e _ _ n,
      resolve_read_wrapped e _ _ n, resolve_write e _ _ n, resolve_compareSwap e _ _ n⟩

end Sys2Proof.Machine

/-!
Check points and the patrol read (R134, R135, R137, R139).
-/

namespace Sys2Proof.Machine

/-! ## Check points -/

section
variable (s : State)

theorem sourceFaults_iff (j : SourceId) : s.sourceFaults j = true ↔
    s.checks = true ∧ j ∉ s.poisonedSources ∧ (s.inject.table = true ∨ s.sources[j].parityOk = false) := by
  simp [State.sourceFaults, and_assoc]

theorem segmentFaults_iff (j : SegNo) : s.segmentFaults j = true ↔
    s.checks = true ∧ j ∉ s.poisonedSegments ∧ (s.inject.table = true ∨ s.segments[j].parityOk = false) := by
  simp [State.segmentFaults, and_assoc]

theorem contextFaults_iff (i : CtxId) : s.contextFaults i = true ↔
    s.checks = true ∧ (s.inject.context = true ∨ (s.ctx i).parityOk = false) := by
  simp [State.contextFaults]

theorem egressFaults_iff : s.egressFaults = true ↔ s.checks = true ∧ s.inject.egress = true := by
  simp [State.egressFaults]

theorem profileFaults_disabled (r : RegionId) (read : Groups) (off : s.checks = false) :
    s.profileFaults r read = { clock := false, timing := false, patrol := false } := by
  rw [State.profileFaults, if_neg (by simp [off])]
  rfl

/-- The groups that a read of a profile names: an injection falls on the first one examined. -/
theorem profileFaults_enabled (r : RegionId) (read : Groups) (on : s.checks = true) :
    let g := s.region r
    let f := s.profileFaults r read
    let c := read.clock = true ∧ g.poison.clock = false
    let t := read.timing = true ∧ g.poison.timing = false
    let p := read.patrol = true ∧ g.poison.patrol = false
    (f.clock = true ↔ c ∧ (s.inject.table = true ∨ g.clockOk = false)) ∧
      (f.timing = true ↔ t ∧ ((s.inject.table = true ∧ ¬c) ∨ g.timingOk = false)) ∧
      (f.patrol = true ↔ p ∧ ((s.inject.table = true ∧ ¬c ∧ ¬t) ∨ g.patrolOk = false)) := by
  simp only [State.profileFaults, on, if_true, Bool.and_eq_true, Bool.or_eq_true, Bool.not_eq_true', ← Bool.not_eq_true,
    and_assoc, and_self]

theorem memoryFault_disabled (b : Burst) (samples : List (Nat × Word × Bool))
    (off : s.checks = false ∨ b.clock.parityLane = false) : s.memoryFault b samples = none := by
  rw [State.memoryFault, if_neg]
  obtain off | off := off <;> simp [off]

theorem memoryFault_enabled (b : Burst) (samples : List (Nat × Word × Bool)) (on : s.checks = true)
    (lane : b.clock.parityLane = true) :
    s.memoryFault b samples = (samples.find? fun w => s.inject.memory || !w.2.2).map fun w => w.1 := by
  rw [State.memoryFault, if_pos (by simp [on, lane])]

end

/-! ## The patrol read -/

section
variable {s : State} {r : RegionId}

theorem patrolCompletion_abandoned (words : List Word) (left : (s.region r).state ≠ .online) :
    s.patrolCompletion r words = s := by
  unfold State.patrolCompletion
  dsimp only
  split
  case h_1 online _ => exact absurd online left
  case h_2 => rfl

theorem patrolCompletion_online {pr : PatrolRead} (words : List Word) (online : (s.region r).state = .online)
    (read : (s.region r).patrolRead = some pr) :
    s.patrolCompletion r words =
      if pr.rest.isEmpty then
        (s.setRegion r { s.region r with due := false, patrolRead := none }).comparePatrol r
          { pr with words := pr.words ++ words }
      else s.setRegion r { s.region r with patrolRead := some { pr with words := pr.words ++ words } } := by
  unfold State.patrolCompletion
  dsimp only
  split
  case h_1 pr' _ read' =>
    obtain rfl := Option.some.inj (read.symm.trans read')
    rfl
  case h_2 other => exact (other pr online read).elim

theorem firstDifference_eq_none {words pattern : List Word} (h : ∀ k < 4, words.getD k 0 = pattern.getD k 0) :
    firstDifference words pattern = none := by
  rw [firstDifference, List.find?_eq_none]
  exact fun k hk => by simpa using h k (List.mem_range.mp hk)

theorem firstDifference_eq_some {words pattern : List Word} {k : Nat} (hk : k < 4)
    (differs : words.getD k 0 ≠ pattern.getD k 0) (before : ∀ j < k, words.getD j 0 = pattern.getD j 0) :
    firstDifference words pattern = some k := by
  rw [firstDifference, List.find?_range_eq_some]
  exact ⟨by simpa using differs, List.mem_range.mpr hk, fun j hj => by simpa using before j hj⟩

theorem comparePatrol_same {pr : PatrolRead} (same : firstDifference pr.words pr.pattern.toList = none) :
    s.comparePatrol r pr = s := by
  rw [State.comparePatrol, same]

theorem comparePatrol_differs {pr : PatrolRead} {k : Nat} (differs : firstDifference pr.words pr.pattern.toList = some k) :
    s.comparePatrol r pr =
      if s.checks then s.takeFault (.patrol r (pr.addr + k)) else s.raise (.patrolMismatch r) := by
  rw [State.comparePatrol, differs]

end

/-- Settles O45. -/
theorem checkPointsAndPatrol : Obligations.CheckPointsAndPatrol := by
  refine ⟨fun s f => ⟨rfl, rfl, rfl, rfl⟩, sourceFaults_iff, segmentFaults_iff, contextFaults_iff, egressFaults_iff,
    fun s r read => ⟨profileFaults_disabled s r read, profileFaults_enabled s r read⟩,
    fun s b samples => ⟨memoryFault_disabled s b samples, fun on lane injected => ?_, fun on lane clean => ?_⟩,
    fun s r words => ⟨patrolCompletion_abandoned words, fun pr online read more => ?_, fun pr online read last => ?_⟩,
    fun s r pr => ⟨fun same => ?_, fun k hk differs before => ⟨fun on => ?_, fun off => ?_⟩⟩⟩
  · rw [memoryFault_enabled s b samples on lane, injected]
    cases samples <;> rfl
  · rw [memoryFault_enabled s b samples on lane, clean]
    congr 2
    funext w
    cases w.2.2 <;> rfl
  · rw [patrolCompletion_online words online read, if_neg (by simpa using more)]
  · rw [patrolCompletion_online words online read, if_pos (by simp [last])]
  · exact comparePatrol_same (firstDifference_eq_none fun k hk => not_not.mp (same k hk))
  · rw [comparePatrol_differs (firstDifference_eq_some hk differs fun j hj => not_not.mp (before j hj)), if_pos on]
  · rw [comparePatrol_differs (firstDifference_eq_some hk differs fun j hj => not_not.mp (before j hj)),
      if_neg (by simp [off])]

end Sys2Proof.Machine

/-!
Bursts that do not complete, and the timers (R66 to R69, R93, R96, R138).
-/

namespace Sys2Proof.Machine

/-! ## The pending action of QUIESCING -/

section
variable {s : State} {r : RegionId}

theorem carryOut_of_burst {b : Burst} (hb : (s.region r).burst = some b) : s.carryOut r = s := by
  rw [State.carryOut, if_neg (by simp [hb])]

variable (quiescing : (s.region r).state = .quiescing) (free : (s.region r).burst = none)
include quiescing free

theorem carryOut_apply {tm : TimingGroup} (action : (s.region r).action = some .apply)
    (pending : (s.region r).pendingTiming = some tm) : s.carryOut r = s.applyTiming r tm := by
  rw [State.carryOut, if_pos ⟨quiescing, free⟩, action, pending]
  rfl

theorem carryOut_park (action : (s.region r).action = some .park) : s.carryOut r = s.setRegion r (s.region r).park := by
  rw [State.carryOut, if_pos ⟨quiescing, free⟩, action]

theorem carryOut_offline (action : (s.region r).action = some .offline) : s.carryOut r = s.enterOffline r := by
  rw [State.carryOut, if_pos ⟨quiescing, free⟩, action]

end

theorem Region.endBurst_burst (g : Region) : g.endBurst.burst = none := by
  rw [Region.endBurst, Region.admitPatrol_of_quiet rfl]

/-! ## READY_TIMEOUT and ABANDONED_BURST_END -/

section
variable {s : State} {r : RegionId} {b : Burst} (hb : (s.region r).burst = some b)

theorem timeOut_ctx {i : CtxId} (moved : Nat) (owner : b.owner = .ctx i) :
    s.timeOut r b moved =
      ((State.endCtx { s.burstMoved r b (s.timeoutTaken moved) with freeCount := s.freeCount + 1 } i .deviceTimeout
        []).enterOffline r).raise (.regionLost r) := by
  rw [State.timeOut]
  dsimp only
  rw [owner]

theorem timeOut_patrol (moved : Nat) (owner : b.owner = .patrol) :
    s.timeOut r b moved =
      (State.enterOffline { s.burstMoved r b (s.timeoutTaken moved) with freeCount := s.freeCount + 1 } r).raise
        (.regionLost r) := by
  rw [State.timeOut]
  dsimp only
  rw [owner]

include hb

theorem exec_readyTimeout_idle {moved : Nat}
    (idle : b.timing.monitor = false ∨ b.len ≤ moved ∨ s.pins ≠ some r) : exec (.readyTimeout r moved) s = .next s := by
  rw [exec_readyTimeout, execReadyTimeout, hb]
  refine if_pos ?_
  obtain monitor | last | pins := idle
  · simp [monitor]
  · simp [Nat.not_lt.mpr last]
  · exact .inr pins

variable (pins : s.pins = some r) (inRange : b.inRange = true)
include pins inRange

theorem exec_readyTimeout_taken {moved : Nat} (monitor : b.timing.monitor = true) (lt : moved < b.len) :
    exec (.readyTimeout r moved) s =
      if b.abandoned then .next (s.endAbandoned r b fun k => decide (k < moved)).finish
      else if (s.region r).state = .online ∨ (s.region r).state = .quiescing then .next (s.timeOut r b moved).finish
      else .next s := by
  rw [exec_readyTimeout, execReadyTimeout, hb]
  dsimp only
  rw [if_neg (by simp [monitor, lt, pins]), if_neg (by simp [inRange])]

variable (abandoned : b.abandoned = true)
include abandoned

theorem exec_abandonedBurstEnd_released {n : Nat} (monitor : b.timing.monitor = true) (lt : n < b.len) :
    exec (.abandonedBurstEnd r (some n)) s = .next (s.endAbandoned r b fun k => decide (k < n)).finish := by
  rw [exec_abandonedBurstEnd, execAbandonedBurstEnd, hb]
  dsimp only
  rw [if_neg (by simp [abandoned, pins]), if_neg (by simp [inRange]), if_pos (by simp [monitor, lt])]

theorem exec_abandonedBurstEnd_whole :
    exec (.abandonedBurstEnd r none) s = .next (s.endAbandoned r b fun _ => true).finish := by
  rw [exec_abandonedBurstEnd, execAbandonedBurstEnd, hb]
  dsimp only
  rw [if_neg (by simp [abandoned, pins]), if_neg (by simp [inRange])]

end

/-- Settles O46. -/
theorem readyTimeoutAndAbandonedEnd : Obligations.ReadyTimeoutAndAbandonedEnd := by
  intro r b s hb inRange
  dsimp only
  refine ⟨fun moved pins monitor lt live up => ⟨Config.wordLands s.freeCount, s.freeCount + 1, fun i owner => ?_,
    fun owner => ?_⟩, fun moved pins monitor lt abandoned => ⟨?_, ?_⟩, fun pins abandoned => ?_, fun other n => ?_,
    fun moved idle => exec_readyTimeout_idle hb idle, carryOut_of_burst hb, ?_⟩
  · rw [exec_readyTimeout_taken hb pins inRange monitor lt, if_neg (by simp [live]), if_pos up, timeOut_ctx moved owner]
    rfl
  · rw [exec_readyTimeout_taken hb pins inRange monitor lt, if_neg (by simp [live]), if_pos up, timeOut_patrol moved owner]
    rfl
  · rw [exec_readyTimeout_taken hb pins inRange monitor lt, if_pos abandoned]
    rfl
  · rw [exec_abandonedBurstEnd_released hb pins inRange abandoned monitor lt]
    rfl
  · rw [exec_abandonedBurstEnd_whole hb pins inRange abandoned]
    rfl
  · rw [exec_abandonedBurstEnd, execAbandonedBurstEnd, hb]
    exact if_pos other
  · have free : (State.region { s.setRegion r (s.region r).endBurst with pins := none } r).burst = none := by
      have region : State.region { s.setRegion r (s.region r).endBurst with pins := none } r = (s.region r).endBurst :=
        region_setRegion s r _
      rw [region, Region.endBurst_burst]
    generalize { s.setRegion r (s.region r).endBurst with pins := none } = off at free ⊢
    intro quiescing
    refine ⟨fun tm action pending => ?_, fun action => ?_, carryOut_offline quiescing free⟩
    · rw [carryOut_apply quiescing free action pending]
      rfl
    · rw [carryOut_park quiescing free action]
      rfl

/-! ## The timers -/

section
variable (s : State)

theorem mem_patrolled (r : RegionId) :
    r ∈ s.patrolled ↔ (s.region r).state = .online ∧ (s.region r).patrol.enable = true := by
  simp [State.patrolled, List.mem_finRange]

theorem patrolled_pairwise : s.patrolled.Pairwise (· < ·) := (List.pairwise_lt_finRange 8).filter _

theorem foldl_markDue_frame (l : List RegionId) :
    l.foldl State.markDue s = { s with regions := (l.foldl State.markDue s).regions } :=
  foldl_keeps (P := fun t => t = { s with regions := t.regions })
    (fun t r ht => by rw [State.markDue]; generalize t.region r = g; rw [ht]; rfl) l rfl

theorem region_foldl_markDue (l : List RegionId) (r : RegionId) :
    (l.foldl State.markDue s).region r = if r ∈ l then { s.region r with due := true } else s.region r := by
  induction l generalizing s with
  | nil => rfl
  | cons q l ih =>
    rw [List.foldl_cons, ih]
    by_cases hq : r = q
    · subst hq
      have marked : (s.markDue r).region r = { s.region r with due := true } := region_setRegion s r _
      rw [marked, if_pos List.mem_cons_self, ite_self]
    · have kept : (s.markDue q).region r = s.region r := region_setRegion_ne s _ hq
      simp only [kept, List.mem_cons, hq, false_or]

end

/-- Settles O47. -/
theorem regionTimers : Obligations.RegionTimers := by
  refine ⟨fun r s => ⟨fun settling => ?_, fun other => ?_⟩, fun s => ⟨fun idle => ?_, fun running run => ?_⟩⟩
  · rw [exec_settleExpiry, execSettleExpiry, if_pos settling]
  · rw [exec_settleExpiry, execSettleExpiry, if_neg other]
  · rw [exec_patrolIntervalExpiry, execPatrolIntervalExpiry, if_neg fun ⟨running, run⟩ => idle.elim running (· run)]
  · refine ⟨s.patrolled.foldl State.markDue s, s.patrolled, ?_, mem_patrolled s, patrolled_pairwise s,
      foldl_markDue_frame s _, fun r marked => ?_, fun r unmarked => ?_⟩
    · rw [exec_patrolIntervalExpiry, execPatrolIntervalExpiry, if_pos ⟨running, run⟩]
    · rw [region_foldl_markDue, if_pos ((mem_patrolled s r).mpr marked)]
    · rw [region_foldl_markDue, if_neg ((mem_patrolled s r).not.mpr unmarked)]

end Sys2Proof.Machine

/-!
Strobe training (R103 to R107, Table 7-2): a completed step has every lane FOUND, or goes on, or is the last.
-/

namespace Sys2Proof.Machine

/-! ## The seek states -/

theorem step_eq_some_iff (x : Seek) (m : Nat) : x.step = some m ↔ x = .found m := by
  cases x <;> simp [Seek.step]

theorem mapM_step_iff (l : List Seek) (steps : List Nat) :
    l.mapM Seek.step = some steps ↔ l = steps.map Seek.found := by
  induction l generalizing steps with
  | nil => cases steps <;> simp
  | cons x l ih =>
    cases steps with
    | nil => simp [Option.bind_eq_some_iff]
    | cons m steps => simp [Option.bind_eq_some_iff, step_eq_some_iff, ih]

theorem mapM_step_eq_none {l : List Seek} {x : Seek} (hx : x ∈ l) (lost : ∀ m, x ≠ .found m) : l.mapM Seek.step = none := by
  rw [Option.eq_none_iff_forall_ne_some]
  intro steps h
  rw [mapM_step_iff] at h
  subst h
  obtain ⟨m, -, rfl⟩ := List.mem_map.mp hx
  exact lost m rfl

theorem Training.takes_iff (t : Training) (lane : Nat) :
    t.takes lane = true ↔ t.awaiting = true ∧ t.samples[lane]? = some none := by
  simp [Training.takes]

theorem Training.complete_iff (t : Training) : t.complete = true ↔ ∀ x ∈ t.samples, x ≠ none := by
  simp [Training.complete, Option.isSome_iff_ne_none]

/-! ## The step -/

section
variable {s : State} {r : RegionId} {t : Training}

theorem recordSample_incomplete (h : ¬t.complete = true) :
    s.recordSample r t = s.setRegion r { s.region r with training := some t } := if_neg h

theorem recordSample_complete (h : t.complete = true) : s.recordSample r t = s.stepOutcome r t := if_pos h

theorem stepOutcome_found {steps : List Nat} (found : t.seekAfter = steps.map Seek.found) :
    s.stepOutcome r t = s.passTraining r steps := by
  rw [State.stepOutcome, (mapM_step_iff _ _).mpr found]

theorem stepOutcome_last (lost : ∃ x ∈ t.seekAfter, ∀ m, x ≠ .found m) (last : t.k = 63) :
    s.stepOutcome r t = s.failTraining r := by
  obtain ⟨x, hx, lost⟩ := lost
  rw [State.stepOutcome, mapM_step_eq_none hx lost]
  exact if_pos last

theorem stepOutcome_more (lost : ∃ x ∈ t.seekAfter, ∀ m, x ≠ .found m) (more : t.k ≠ 63) :
    s.stepOutcome r t =
      ((s.setRegion r { s.region r with training := some t.advance }).releaseInputs).becomeReady r := by
  obtain ⟨x, hx, lost⟩ := lost
  rw [State.stepOutcome, mapM_step_eq_none hx lost]
  exact if_neg more

theorem exec_strobeSample_training {input : Fin 4} {level : Bool} (holder : s.holder = some r)
    (training : (s.region r).training = some t) :
    exec (.strobeSample input level) s =
      .next (if t.takes input.val then (s.recordSample r (t.record input.val level)).finish else s) := by
  rw [exec_strobeSample, execStrobeSample, holder]
  dsimp only
  rw [training]

theorem exec_stepTimerExpiry_training (holder : s.holder = some r) (training : (s.region r).training = some t) :
    exec .stepTimerExpiry s = .next (if t.awaiting then (s.failTraining r).finish else s) := by
  rw [exec_stepTimerExpiry, execStepTimerExpiry, holder]
  dsimp only
  rw [training]

theorem releaseInputs_last (alone : s.waiting = []) : s.releaseInputs = { s with holder := none } := by
  rw [State.releaseInputs, alone]

theorem releaseInputs_next {q : RegionId} {rest : List RegionId} (next : s.waiting = q :: rest) :
    s.releaseInputs = { s with waiting := rest }.takeInputs q := by
  rw [State.releaseInputs, next]
  rfl

end

/-- Settles O48. -/
theorem strobeTraining : Obligations.StrobeTraining := by
  refine ⟨fun k m x => ⟨rfl, rfl, rfl, rfl, rfl, rfl, by cases x <;> rfl⟩, fun input level s => ⟨fun none => ⟨?_, ?_⟩,
    fun r t holder training => ?_⟩, fun s r => ⟨releaseInputs_last, fun q rest => releaseInputs_next, becomeReady_first,
    becomeReady_waits, fun t training => ?_⟩⟩
  · rw [exec_strobeSample, execStrobeSample, none]
  · rw [exec_stepTimerExpiry, execStepTimerExpiry, none]
  · rw [exec_strobeSample_training holder training, exec_stepTimerExpiry_training holder training]
    have complete := (t.record input.val level).complete_iff
    dsimp only
    rw [← Training.takes_iff]
    refine ⟨fun ignored => ?_, fun takes more => ?_, fun steps takes all found => ?_, fun takes all lost last => ?_,
      fun takes all lost more => ?_, fun awaiting => ?_, fun still => ?_⟩
    · rw [if_neg ignored]
    · rw [if_pos takes, recordSample_incomplete (complete.not.mpr more)]
      rfl
    · rw [if_pos takes, recordSample_complete (complete.mpr all), stepOutcome_found (steps := steps) (by exact found)]
      rfl
    · rw [if_pos takes, recordSample_complete (complete.mpr all), stepOutcome_last (by exact lost) (by exact last)]
      rfl
    · rw [if_pos takes, recordSample_complete (complete.mpr all), stepOutcome_more (by exact lost) (by exact more)]
      rfl
    · rw [if_pos awaiting]
      rfl
    · rw [if_neg (by simp [still])]
  · rw [State.takeInputs, training]
    rfl

end Sys2Proof.Machine

/-!
Endings and the delivery lists (R28, R35, R36, R131, R151): what a context's ending sets and leaves, how one list head is served,
and that service goes on until no list can be served.
-/

namespace Sys2Proof.Machine

/-! ## The ending of a context -/

theorem Region.leave_eq (g : Region) (i : CtxId) : g.leave i =
    { g with
      queue := g.queue.erase i, turn := if i ∈ g.queue ∧ g.queue.idxOf i < g.turn then g.turn - 1 else g.turn } := by
  unfold Region.leave
  by_cases hi : i ∈ g.queue
  · rw [if_pos (by simpa using hi)]
    simp [hi]
  · rw [if_neg (by simpa using hi), List.erase_of_not_mem hi, if_neg fun h => hi h.1]

theorem isCursor_iff (k : ReqKind) : k.isCursor = true ↔ k = .cursorRead ∨ k = .cursorWrite := by
  cases k <;> simp [ReqKind.isCursor]

section
variable (s : State) (i : CtxId) (st : Status) (ws : List Word)

theorem endCtx_frame : s.endCtx i st ws =
    { s with
      ctxs := (s.endCtx i st ws).ctxs, ports := (s.endCtx i st ws).ports, counts := (s.endCtx i st ws).counts,
      regions := (s.endCtx i st ws).regions, cursors := (s.endCtx i st ws).cursors } := by
  rw [endCtx_eq]
  unfold State.clearMarker
  split <;> split <;> rfl

theorem cursors_endCtx : (s.endCtx i st ws).cursors = (s.clearMarker (s.ctx i)).cursors := by
  rw [endCtx_eq]
  unfold State.clearMarker
  split <;> split <;> rfl

theorem port_endCtx (q : Port) : (s.endCtx i st ws).port q =
    if q = (s.ctx i).port ∧ (s.port q).txOn = true then { s.port q with delivery := (s.port q).delivery ++ [i] }
    else s.port q := by
  have kept (q : Port) : (((s.leaveQueue (s.ctx i).region i).clearMarker (s.ctx i)).setCtx i ((s.ctx i).ended st ws)).port q =
      s.port q := port_clearMarker (s.leaveQueue (s.ctx i).region i) (s.ctx i) q
  rw [endCtx_eq]
  split
  case isTrue on =>
    by_cases hq : q = (s.ctx i).port
    · subst hq
      rw [port_setPort, if_pos ⟨rfl, on⟩]
    · rw [port_setPort_ne _ _ hq, kept, if_neg fun h => hq h.1]
  case isFalse off =>
    rw [if_neg (by rintro ⟨rfl, on⟩; exact off on)]
    exact kept q

theorem count_endCtx (j : SourceId) : (s.endCtx i st ws).count j =
    if (s.ctx i).source = j ∧ (s.port (s.ctx i).port).txOn = false then s.count j - 1 else s.count j := by
  have kept (j : SourceId) :
      (((s.leaveQueue (s.ctx i).region i).clearMarker (s.ctx i)).setCtx i ((s.ctx i).ended st ws)).count j = s.count j := by
    unfold State.clearMarker
    split <;> rfl
  rw [endCtx_eq]
  split
  case isTrue on =>
    rw [if_neg (by simp [on])]
    exact kept j
  case isFalse off =>
    rw [count_release, kept, ctx_setCtx]
    simp only [Bool.not_eq_true] at off
    simp only [off, and_true]
    rfl

end

theorem cursor_clearMarker_same {s : State} {c : Context} (step : c.kind = .cursorRead ∨ c.kind = .cursorWrite) :
    (s.clearMarker c).cursor c.source c.cursor = { s.cursor c.source c.cursor with inFlight := false } := by
  rw [State.clearMarker, if_pos ((isCursor_iff c.kind).mpr step), cursor_setCursor]

theorem cursor_clearMarker_ne {s : State} {c : Context} {j : SourceId} {k : Fin 2} (h : ¬(j = c.source ∧ k = c.cursor)) :
    (s.clearMarker c).cursor j k = s.cursor j k := by
  unfold State.clearMarker
  split
  · exact cursor_setCursor_ne s _ h
  · rfl

theorem clearMarker_of_ne {s : State} {c : Context} (h : ¬(c.kind = .cursorRead ∨ c.kind = .cursorWrite)) :
    s.clearMarker c = s := by
  rw [State.clearMarker, if_neg ((isCursor_iff c.kind).not.mpr h)]

theorem cursor_endCtx (s : State) (i : CtxId) (st : Status) (ws : List Word) (j : SourceId) (k : Fin 2) :
    (s.endCtx i st ws).cursor j k = (s.clearMarker (s.ctx i)).cursor j k := by
  rw [State.cursor, State.cursor, cursors_endCtx]

/-! ## Serving a list -/

section
variable {s : State} {p : Port} {i : CtxId} {rest : List CtxId} (head : (s.port p).delivery = i :: rest)
include head

theorem serveHead_context (fault : s.contextFaults i = true) :
    s.serveHead p =
      ((s.setPort p { s.port p with delivery := rest }).release i).faultAt .context (.context i) := by
  rw [State.serveHead, head]
  exact if_pos fault

theorem serveHead_egress (sound : s.contextFaults i = false) (fault : s.egressFaults = true) :
    s.serveHead p =
      ((s.setPort p { s.port p with delivery := rest }).release i).faultAt .egress (.egress p (some i)) := by
  rw [State.serveHead, head]
  dsimp only
  rw [if_neg (by simp [sound]), if_pos fault]

theorem serveHead_response (sound : s.contextFaults i = false) (noFault : s.egressFaults = false) :
    s.serveHead p = ((s.setPort p { s.port p with delivery := rest }).join p (s.ctx i).response).release i := by
  rw [State.serveHead, head]
  dsimp only
  rw [if_neg (by simp [sound]), if_neg (by simp [noFault])]

end

section
variable (s : State)

theorem forall_port {q : Port → Prop} : (∀ p, q p) ↔ q .A ∧ q .B ∧ q .C ∧ q .D :=
  ⟨fun h => ⟨h .A, h .B, h .C, h .D⟩, fun ⟨a, b, c, d⟩ p => by cases p <;> assumption⟩

/-- The first port, by its code, whose list can be served. -/
theorem serviceablePort_eq_some_iff (p : Port) : s.serviceablePort = some p ↔
    (s.port p).serviceable = true ∧ ∀ q, portIndex q < portIndex p → (s.port q).serviceable = false := by
  have first (f : Port → Bool) : [Port.A, .B, .C, .D].find? f = some p ↔
      f p = true ∧ ∀ q, portIndex q < portIndex p → f q = false := by
    rw [forall_port]
    simp only [find?_cons_ite, List.find?_nil]
    cases p
    all_goals
      generalize f .A = a, f .B = b, f .C = c, f .D = d
      revert a b c d
      decide
  exact first fun p => (s.port p).serviceable

theorem serviceablePort_eq_none_iff : s.serviceablePort = none ↔ ∀ p, (s.port p).serviceable = false := by
  rw [State.serviceablePort, List.find?_eq_none]
  refine ⟨fun h p => ?_, fun h p _ => by simp [h p]⟩
  cases p <;> exact Bool.not_eq_true _ ▸ h _ (by simp)

theorem serveFuel_some {p : Port} (n : Nat) (hp : s.serviceablePort = some p) :
    State.serveFuel (n + 1) s = State.serveFuel n (s.serveHead p) := by
  rw [State.serveFuel, hp]

theorem serveFuel_none (n : Nat) (none : s.serviceablePort = none) : State.serveFuel (n + 1) s = s := by
  rw [State.serveFuel, none]

/-- The contexts that the delivery lists hold. -/
def State.deliveries (s : State) : Nat :=
  (s.ports.a.delivery ++ s.ports.b.delivery ++ s.ports.c.delivery ++ s.ports.d.delivery).length

theorem deliveries_eq : s.deliveries = (s.port .A).delivery.length + (s.port .B).delivery.length +
    (s.port .C).delivery.length + (s.port .D).delivery.length := by
  simp only [State.deliveries, State.port, List.length_append]

end

theorem trySend_delivery (x : PortState) : x.trySend.delivery = x.delivery := by
  unfold PortState.trySend
  split
  · rfl
  · split <;> rfl

theorem delivery_join (s : State) (p : Port) (f : List Word) (q : Port) :
    ((s.join p f).port q).delivery = (s.port q).delivery := by
  rw [State.join, State.trySend, setPort_setPort, port_setPort]
  by_cases hq : q = p
  · subst hq
    rw [port_setPort, trySend_delivery]
  · rw [port_setPort_ne _ _ hq]

section
variable {s : State} {p : Port} (off : s.checks = false) (hp : s.serviceablePort = some p)
include off hp

/-- With the checks disabled a served head leaves its list, and no other list changes. -/
theorem deliveries_serveHead : (s.serveHead p).deliveries + 1 = s.deliveries := by
  obtain ⟨-, full, -⟩ := (serviceable_iff _).mp (serviceable_of_serviceablePort hp)
  obtain ⟨i, rest, head⟩ := List.exists_cons_of_ne_nil full
  rw [serveHead_response head (by simp [State.contextFaults, off]) (by simp [State.egressFaults, off])]
  have left (q : Port) :
      ((((s.setPort p { s.port p with delivery := rest }).join p (s.ctx i).response).release i).port q).delivery =
        if q = p then rest else (s.port q).delivery := by
    refine (delivery_join _ p _ q).trans ?_
    split
    case isTrue hq => rw [hq, port_setPort]
    case isFalse hq => rw [port_setPort_ne _ _ hq]
  have length : (s.port p).delivery.length = rest.length + 1 := congrArg List.length head
  rw [deliveries_eq, deliveries_eq]
  simp only [left]
  cases p <;> simp only [reduceCtorEq, if_true, if_false] <;> omega

end

/-- With the checks disabled service ends with no list that can be served, where it has fuel for every context of a list. -/
theorem serviceable_serveFuel {n : Nat} {s : State} (off : s.checks = false) (enough : s.deliveries ≤ n) (p : Port) :
    ((State.serveFuel n s).port p).serviceable = false := by
  induction n generalizing s with
  | zero =>
    refine Bool.eq_false_iff.mpr fun can => ?_
    obtain ⟨-, full, -⟩ := (serviceable_iff _).mp can
    have pos : 0 < (s.port p).delivery.length := List.length_pos_iff.mpr full
    rw [deliveries_eq] at enough
    cases p <;> omega
  | succ n ih =>
    cases hp : s.serviceablePort with
    | none =>
      rw [serveFuel_none s n hp]
      exact (serviceablePort_eq_none_iff s).mp hp p
    | some q =>
      rw [serveFuel_some s n hp]
      have fewer := deliveries_serveHead off hp
      exact ih ((keeps_serveHead s q).checks.trans off) (by omega)

/-- Settles O49. -/
theorem endingHandsOver : Obligations.EndingHandsOver := by
  refine ⟨fun s i st ws => ?_, fun s i => rfl, fun x => serviceable_iff x, fun s p i rest head => ?_, fun s => ?_,
    fun s off p => ?_⟩
  · dsimp only
    refine ⟨fun on => ⟨?_, ?_, ?_⟩, fun off => ⟨?_, ?_, ?_, fun j hj => ?_⟩, fun j hj => ctx_endCtx_ne s st ws hj,
      fun q hq => ?_, fun q hq => ?_, ?_, fun step => ⟨?_, fun j k other => ?_⟩, fun noRead noWrite => ?_,
      endCtx_frame s i st ws⟩
    · rw [ctx_endCtx, if_pos on]
      rfl
    · rw [port_endCtx, if_pos ⟨rfl, on⟩]
    · rw [endCtx_eq, if_pos on]
      unfold State.clearMarker
      split <;> rfl
    · rw [ctx_endCtx, if_neg (by simp [off])]
    · rw [endCtx_eq, if_neg (by simp [off])]
      unfold State.clearMarker
      split <;> rfl
    · rw [count_endCtx, if_pos ⟨rfl, off⟩]
    · rw [count_endCtx, if_neg fun h => hj h.1.symm]
    · rw [port_endCtx, if_neg fun h => hq h.1]
    · rw [Pool.region_endCtx, if_neg hq]
    · rw [Pool.region_endCtx, if_pos rfl, Region.leave_eq]
    · rw [cursor_endCtx, cursor_clearMarker_same step]
    · rw [cursor_endCtx, cursor_clearMarker_ne other]
    · rw [cursors_endCtx, clearMarker_of_ne (not_or.mpr ⟨noRead, noWrite⟩)]
  · exact ⟨serveHead_context head, serveHead_egress head, fun sound noFault => (serveHead_response head sound noFault).trans rfl⟩
  · exact ⟨serviceablePort_eq_some_iff s, serviceablePort_eq_none_iff s, rfl, rfl, fun n =>
      ⟨fun p => serveFuel_some s n, serveFuel_none s n⟩⟩
  · by_cases enough : s.deliveries ≤ 32
    · exact .inl (serviceable_serveFuel off enough p)
    · exact .inr (by exact Nat.not_le.mp enough)

end Sys2Proof.Machine

/-!
Contexts that end together (R33, R95, R140): distinct contexts ended one after another leave the state that their endings leave
side by side.
-/

namespace Sys2Proof.Machine

/-! ## What an ending leaves of the other contexts' ports -/

theorem endAll_cons (s : State) (i : CtxId) (l : List CtxId) (st : Status) :
    s.endAll (i :: l) st = (s.endCtx i st []).endAll l st := rfl

/-- Command `i` names the cursor `k` of source `j` as a step. -/
def Context.stepsOn (c : Context) (j : SourceId) (k : Fin 2) : Prop :=
  (c.kind = .cursorRead ∨ c.kind = .cursorWrite) ∧ c.source = j ∧ c.cursor = k

theorem cursor_endCtx_of_steps {s : State} {i : CtxId} {j : SourceId} {k : Fin 2} (st : Status) (ws : List Word)
    (steps : (s.ctx i).stepsOn j k) : (s.endCtx i st ws).cursor j k = { s.cursor j k with inFlight := false } := by
  obtain ⟨kind, rfl, rfl⟩ := steps
  rw [cursor_endCtx, cursor_clearMarker_same kind]

theorem cursor_endCtx_of_not_steps {s : State} {i : CtxId} {j : SourceId} {k : Fin 2} (st : Status) (ws : List Word)
    (other : ¬(s.ctx i).stepsOn j k) : (s.endCtx i st ws).cursor j k = s.cursor j k := by
  rw [cursor_endCtx]
  by_cases kind : (s.ctx i).kind = .cursorRead ∨ (s.ctx i).kind = .cursorWrite
  · exact cursor_clearMarker_ne fun ⟨source, cursor⟩ => other ⟨kind, source.symm, cursor.symm⟩
  · rw [clearMarker_of_ne kind]

theorem txOn_endCtx (s : State) (i : CtxId) (st : Status) (ws : List Word) (p : Port) :
    ((s.endCtx i st ws).port p).txOn = (s.port p).txOn := by
  rw [port_endCtx]
  split <;> rfl

/-! ## Many endings -/

theorem endAll_frame (l : List CtxId) (s : State) (st : Status) : s.endAll l st =
    { s with
      ctxs := (s.endAll l st).ctxs, ports := (s.endAll l st).ports, counts := (s.endAll l st).counts,
      regions := (s.endAll l st).regions, cursors := (s.endAll l st).cursors } :=
  foldl_keeps
    (P := fun t => t = { s with
      ctxs := t.ctxs, ports := t.ports, counts := t.counts, regions := t.regions, cursors := t.cursors })
    (fun t i ht => by rw [endCtx_frame t i st []]; generalize t.endCtx i st [] = u; rw [ht]) l rfl

section
variable {l : List CtxId} (distinct : l.Nodup) (s : State) (st : Status)
include distinct

theorem ctx_endAll {i : CtxId} (hi : i ∈ l) : (s.endAll l st).ctx i =
    if (s.port (s.ctx i).port).txOn then (s.ctx i).ended st [] else .free := by
  induction l generalizing s with
  | nil => cases hi
  | cons k l ih =>
    obtain ⟨fresh, distinct⟩ := List.nodup_cons.mp distinct
    rw [endAll_cons]
    obtain rfl | hi := List.mem_cons.mp hi
    · rw [ctx_endAll_ne l _ st fresh, ctx_endCtx]
    · rw [ih distinct _ hi, ctx_endCtx_ne s st [] (ne_of_mem_of_not_mem hi fresh), txOn_endCtx]

theorem count_endAll (j : SourceId) : (s.endAll l st).count j = s.count j -
    (l.filter fun i => !(s.port (s.ctx i).port).txOn && (s.ctx i).source == j).length := by
  induction l generalizing s with
  | nil => rfl
  | cons k l ih =>
    obtain ⟨fresh, distinct⟩ := List.nodup_cons.mp distinct
    have rest : (l.filter fun i => !((s.endCtx k st []).port ((s.endCtx k st []).ctx i).port).txOn &&
        ((s.endCtx k st []).ctx i).source == j) =
        l.filter fun i => !(s.port (s.ctx i).port).txOn && (s.ctx i).source == j :=
      List.filter_congr fun i hi => by rw [ctx_endCtx_ne s st [] (ne_of_mem_of_not_mem hi fresh), txOn_endCtx]
    rw [endAll_cons, ih distinct, rest, count_endCtx, List.filter_cons]
    by_cases own : (s.ctx k).source = j ∧ (s.port (s.ctx k).port).txOn = false
    · rw [if_pos own, if_pos (by simp [own]), List.length_cons]
      omega
    · rw [if_neg own, if_neg (by simpa [and_comm] using own)]

theorem port_endAll (p : Port) : (s.endAll l st).port p =
    { s.port p with
      delivery := (s.port p).delivery ++
        (if (s.port p).txOn then l.filter fun i => (s.ctx i).port == p else []) } := by
  induction l generalizing s with
  | nil =>
    have none : (s.port p).delivery ++
        (if (s.port p).txOn then [].filter fun i => (s.ctx i).port == p else []) = (s.port p).delivery := by simp
    rw [none]
    rfl
  | cons k l ih =>
    obtain ⟨fresh, distinct⟩ := List.nodup_cons.mp distinct
    have rest : (l.filter fun i => ((s.endCtx k st []).ctx i).port == p) = l.filter fun i => (s.ctx i).port == p :=
      List.filter_congr fun i hi => by rw [ctx_endCtx_ne s st [] (ne_of_mem_of_not_mem hi fresh)]
    rw [endAll_cons, ih distinct, rest, port_endCtx]
    by_cases own : p = (s.ctx k).port ∧ (s.port p).txOn = true
    · rw [if_pos own]
      obtain ⟨rfl, on⟩ := own
      simp [on]
    · rw [if_neg own]
      by_cases on : (s.port p).txOn = true
      · have other : ¬(s.ctx k).port = p := fun e => own ⟨e.symm, on⟩
        simp [other]
      · simp [on]

theorem cursor_endAll_of_not_steps {j : SourceId} {k : Fin 2} (h : ∀ i ∈ l, ¬(s.ctx i).stepsOn j k) :
    (s.endAll l st).cursor j k = s.cursor j k := by
  induction l generalizing s with
  | nil => rfl
  | cons i l ih =>
    obtain ⟨fresh, distinct⟩ := List.nodup_cons.mp distinct
    rw [endAll_cons, ih distinct, cursor_endCtx_of_not_steps st [] (h i List.mem_cons_self)]
    intro m hm
    rw [ctx_endCtx_ne s st [] (ne_of_mem_of_not_mem hm fresh)]
    exact h m (List.mem_cons_of_mem i hm)

theorem cursor_endAll_of_steps {j : SourceId} {k : Fin 2} (h : ∃ i ∈ l, (s.ctx i).stepsOn j k) :
    (s.endAll l st).cursor j k = { s.cursor j k with inFlight := false } := by
  induction l generalizing s with
  | nil => simp at h
  | cons i l ih =>
    obtain ⟨fresh, distinct⟩ := List.nodup_cons.mp distinct
    have kept {m : CtxId} (hm : m ∈ l) : (s.endCtx i st []).ctx m = s.ctx m :=
      ctx_endCtx_ne s st [] (ne_of_mem_of_not_mem hm fresh)
    rw [endAll_cons]
    by_cases later : ∃ m ∈ l, (s.ctx m).stepsOn j k
    · obtain ⟨m, hm, steps⟩ := later
      rw [ih distinct _ ⟨m, hm, by rwa [kept hm]⟩]
      by_cases first : (s.ctx i).stepsOn j k
      · rw [cursor_endCtx_of_steps st [] first]
      · rw [cursor_endCtx_of_not_steps st [] first]
    · have first : (s.ctx i).stepsOn j k := by
        obtain ⟨m, hm, steps⟩ := h
        obtain rfl | hm := List.mem_cons.mp hm
        · exact steps
        · exact absurd ⟨m, hm, steps⟩ later
      rw [cursor_endAll_of_not_steps distinct _ st fun m hm steps => later ⟨m, hm, by rwa [kept hm] at steps⟩,
        cursor_endCtx_of_steps st [] first]

/-- A queue loses the contexts that end, and its turn pointer stays within it. -/
theorem queue_endAll {r : RegionId} (home : ∀ i ∈ (s.region r).queue, (s.ctx i).region = r)
    (once : (s.region r).queue.Nodup) (turn : (s.region r).turn ≤ (s.region r).queue.length) :
    ((s.endAll l st).region r).turn ≤ ((s.endAll l st).region r).queue.length ∧
      ∀ j ∈ ((s.endAll l st).region r).queue, j ∈ (s.region r).queue ∧ j ∉ l := by
  induction l generalizing s with
  | nil => exact ⟨turn, fun j hj => ⟨hj, List.not_mem_nil⟩⟩
  | cons i l ih =>
    obtain ⟨fresh, distinct⟩ := List.nodup_cons.mp distinct
    have queue : ((s.endCtx i st []).region r).queue = (s.region r).queue.erase i := by
      rw [Pool.region_endCtx]
      split
      case isTrue => exact Region.queue_leave _ i
      case isFalse other => rw [List.erase_of_not_mem fun hi => other (home i hi).symm]
    have turn' : ((s.endCtx i st []).region r).turn ≤ ((s.endCtx i st []).region r).queue.length := by
      rw [Pool.region_endCtx]
      split
      case isTrue => exact Region.turn_leave i turn
      case isFalse => exact turn
    have left (j : CtxId) (hj : j ∈ ((s.endCtx i st []).region r).queue) : j ≠ i ∧ j ∈ (s.region r).queue := by
      rw [queue] at hj
      exact once.mem_erase_iff.mp hj
    obtain ⟨turn'', gone⟩ := ih distinct (s.endCtx i st []) (fun j hj => by
        obtain ⟨ne, hj⟩ := left j hj
        rw [ctx_endCtx_ne s st [] ne, home j hj]) (by rw [queue]; exact once.erase i) turn'
    refine ⟨turn'', fun j hj => ?_⟩
    obtain ⟨hq, hl⟩ := gone j hj
    obtain ⟨ne, hq⟩ := left j hq
    exact ⟨hq, List.not_mem_cons_of_ne_of_not_mem ne hl⟩

end

end Sys2Proof.Machine

/-!
Entry into containment (R100, R140 to R142): the fault is recorded, its entry poisoned and every region halted, and then every
unfinished context ends.
-/

namespace Sys2Proof.Machine

/-- The state in which the unfinished contexts end, as containment is entered (R140). -/
def State.arrested (s : State) (f : FaultItem) : State :=
  { State.poisonEntry { s with record := some { item := f, prior := s.mode }, mode := .contained, failPin := true } f with
    regions := (State.poisonEntry
      { s with record := some { item := f, prior := s.mode }, mode := .contained, failPin := true } f).regions.map Region.halt,
    holder := none, waiting := [] }

section
variable (s : State) (f : FaultItem)

theorem arrested_frame : s.arrested f =
    { s with
      record := some { item := f, prior := s.mode }, mode := .contained, failPin := true, holder := none, waiting := [],
      regions := (s.arrested f).regions, poisonedSources := (s.arrested f).poisonedSources,
      poisonedSegments := (s.arrested f).poisonedSegments } := by
  cases f <;> rfl

theorem arrested_ctx (i : CtxId) : (s.arrested f).ctx i = s.ctx i := by rw [arrested_frame]; rfl
theorem arrested_port (p : Port) : (s.arrested f).port p = s.port p := by rw [arrested_frame]; cases p <;> rfl
theorem arrested_count (j : SourceId) : (s.arrested f).count j = s.count j := by rw [arrested_frame]; rfl
theorem arrested_cursor (j : SourceId) (k : Fin 2) : (s.arrested f).cursor j k = s.cursor j k := by rw [arrested_frame]; rfl
theorem arrested_unfinished : (s.arrested f).unfinished = s.unfinished := by
  simp only [State.unfinished, arrested_ctx]

theorem contain_eq : s.contain f = ((s.arrested f).endAll s.unfinished .contained).raise .contained := by
  rw [← arrested_unfinished s f]
  rfl

theorem takeFault_live (live : s.mode ≠ .contained) :
    s.takeFault f = ((s.arrested f).endAll s.unfinished .contained).raise .contained := by
  rw [State.takeFault, if_neg live, contain_eq]

/-- A region's poisoned groups, with those that a fault adds. -/
def FaultItem.poisons (f : FaultItem) (r : RegionId) (p : Groups) : Groups :=
  match f with
  | .profile q g => if r = q then p.union g else p
  | _ => p

theorem poisons_profile (r : RegionId) (g p : Groups) : (FaultItem.profile r g).poisons r p = p.union g := if_pos rfl

theorem poisons_profile_ne {r q : RegionId} (g p : Groups) (hr : r ≠ q) : (FaultItem.profile q g).poisons r p = p :=
  if_neg hr

theorem poisons_other {f : FaultItem} {r : RegionId} (other : ∀ g, f ≠ .profile r g) (p : Groups) : f.poisons r p = p := by
  cases f
  case profile q g => exact poisons_profile_ne g p fun hr => other g (by rw [hr])
  all_goals rfl

theorem region_poisonEntry (r : RegionId) :
    (s.poisonEntry f).region r = { s.region r with poison := f.poisons r (s.region r).poison } := by
  cases f
  case profile q g =>
    by_cases hr : r = q
    · subst hr
      rw [poisons_profile]
      exact region_setRegion s r _
    · rw [poisons_profile_ne g _ hr]
      exact region_setRegion_ne s _ hr
  all_goals rfl

theorem arrested_region (r : RegionId) :
    (s.arrested f).region r = { s.region r with poison := f.poisons r (s.region r).poison }.halt := by
  refine (region_map _ Region.halt r).trans ?_
  rw [region_poisonEntry]
  rfl

end

theorem unfinished_nodup (s : State) : s.unfinished.Nodup := (List.nodup_finRange 32).filter _

section
variable {s : State} {r : RegionId}

/-- The region as containment leaves it, but for its queue, its turn pointer and its poisoned groups (R100). -/
theorem region_contain (f : FaultItem) : ∃ q n,
    ((s.arrested f).endAll s.unfinished .contained).region r =
      { s.region r with
        state := .halted, prior := some (s.region r).state, priorAction := (s.region r).action, action := none,
        pendingTiming := none, settle := none, due := false, patrolRead := none, training := none,
        burst := (s.region r).burst.map Burst.abandon, patrol := (s.region r).written.getD (s.region r).patrol,
        written := none, trained := if (s.region r).state = .training then false else (s.region r).trained,
        delays := if (s.region r).state = .training then List.replicate (busLanes (s.region r).clock) 0
          else (s.region r).delays,
        queue := q, turn := n, poison := f.poisons r (s.region r).poison } := by
  obtain ⟨q, n, hr⟩ := region_endAll s.unfinished (s.arrested f) .contained r
  refine ⟨q, n, ?_⟩
  rw [hr, arrested_region, Region.halt_eq]

theorem arrested_queue (f : FaultItem) : ((s.arrested f).region r).queue = (s.region r).queue ∧
    ((s.arrested f).region r).turn = (s.region r).turn := by
  rw [arrested_region, Region.halt_eq]
  exact ⟨rfl, rfl⟩

end

section
variable (s : State) (f : FaultItem)

theorem arrested_poisonedSources (j : SourceId) :
    j ∈ (s.arrested f).poisonedSources ↔ j ∈ s.poisonedSources ∨ f = .source j := by
  cases f
  case source i =>
    have insert : (s.arrested (.source i)).poisonedSources = s.poisonedSources.insert i := rfl
    rw [insert, List.mem_insert_iff, or_comm]
    simp [eq_comm]
  all_goals exact (or_iff_left nofun).symm

theorem arrested_poisonedSegments (j : SegNo) :
    j ∈ (s.arrested f).poisonedSegments ↔ j ∈ s.poisonedSegments ∨ f = .segment j := by
  cases f
  case segment i =>
    have insert : (s.arrested (.segment i)).poisonedSegments = s.poisonedSegments.insert i := rfl
    rw [insert, List.mem_insert_iff, or_comm]
    simp [eq_comm]
  all_goals exact (or_iff_left nofun).symm

/-- What the endings leave of the arrested state but its contexts' tables. -/
theorem contain_frame : ∃ regions ctxs counts cursors ports,
    (s.arrested f).endAll s.unfinished .contained =
      { s with
        record := some { item := f, prior := s.mode }, mode := .contained, failPin := true, holder := none, waiting := [],
        regions := regions, ctxs := ctxs, counts := counts, cursors := cursors, ports := ports,
        poisonedSources := (s.arrested f).poisonedSources, poisonedSegments := (s.arrested f).poisonedSegments } := by
  have ended := endAll_frame s.unfinished (s.arrested f) .contained
  have frame := arrested_frame s f
  generalize (s.arrested f).endAll s.unfinished .contained = t at ended ⊢
  generalize s.arrested f = u at ended frame ⊢
  refine ⟨t.regions, t.ctxs, t.counts, t.cursors, t.ports, ended.trans ?_⟩
  rw [frame]

end

/-- Settles O50: each clause is what the endings leave of one table of the arrested state. -/
theorem containmentEntry : Obligations.ContainmentEntry := by
  refine ⟨fun f s live => ?_, fun f s contained => ?_⟩
  · dsimp only
    rw [takeFault_live s f live]
    have distinct := unfinished_nodup s
    refine ⟨?_, fun r => ?_, fun r home once turn => ?_, fun i ends on => ?_, fun i ends off => ?_, fun i done => ?_,
      fun j => ?_, fun p => ?_, fun j k steps => ?_, fun j k other => ?_, fun j => ?_, fun j => ?_, fun r g hf => ?_,
      fun r other => ?_⟩
    · obtain ⟨regions, ctxs, counts, cursors, ports, frame⟩ := contain_frame s f
      rw [frame]
      rfl
    · obtain ⟨q, n, region⟩ := region_contain (s := s) (r := r) f
      rw [raise_region, region, replicate_busLanes]
      rfl
    · obtain ⟨queue, pointer⟩ := arrested_queue (s := s) (r := r) f
      obtain ⟨within, left⟩ := queue_endAll distinct (s.arrested f) .contained (r := r)
        (fun i hi => by rw [arrested_ctx]; exact (home i (queue ▸ hi)).2) (queue ▸ once) (by rwa [queue, pointer])
      have empty : (((s.arrested f).endAll s.unfinished .contained).region r).queue = [] := by
        refine List.eq_nil_iff_forall_not_mem.mpr fun i hi => ?_
        obtain ⟨waits, kept⟩ := left i hi
        exact kept (mem_unfinished.mpr (home i (queue ▸ waits)).1)
      rw [empty] at within
      exact ⟨empty, Nat.le_zero.mp within⟩
    · rw [raise_ctx, ctx_endAll distinct _ _ (mem_unfinished.mpr ends), arrested_ctx, arrested_port, if_pos on]
      rfl
    · rw [raise_ctx, ctx_endAll distinct _ _ (mem_unfinished.mpr ends), arrested_ctx, arrested_port,
        if_neg (by simp [off])]
    · rw [raise_ctx, ctx_endAll_ne _ _ _ (mem_unfinished.not.mpr done), arrested_ctx]
    · rw [raise_count, count_endAll distinct, arrested_count]
      simp only [arrested_ctx, arrested_port, State.unfinished, List.filter_filter, Bool.and_comm, Bool.and_left_comm,
        beq_eq_decide]
    · rw [raise_port, port_endAll distinct, arrested_port]
      simp only [arrested_ctx, State.unfinished, List.filter_filter, Bool.and_comm, beq_eq_decide]
    · obtain ⟨i, ends, steps⟩ := steps
      rw [raise_cursor, cursor_endAll_of_steps distinct _ _ ⟨i, mem_unfinished.mpr ends, by rw [arrested_ctx]; exact steps⟩,
        arrested_cursor]
    · rw [raise_cursor, cursor_endAll_of_not_steps distinct, arrested_cursor]
      intro i hi steps
      rw [arrested_ctx] at steps
      exact other ⟨i, mem_unfinished.mp hi, steps⟩
    · obtain ⟨regions, ctxs, counts, cursors, ports, frame⟩ := contain_frame s f
      rw [raise_poisonedSources, frame]
      exact arrested_poisonedSources s f j
    · obtain ⟨regions, ctxs, counts, cursors, ports, frame⟩ := contain_frame s f
      rw [raise_poisonedSegments, frame]
      exact arrested_poisonedSegments s f j
    · obtain ⟨q, n, region⟩ := region_contain (s := s) (r := r) f
      rw [raise_region, region, hf]
      exact poisons_profile r g _
    · obtain ⟨q, n, region⟩ := region_contain (s := s) (r := r) f
      rw [raise_region, region]
      exact poisons_other other _
  · rw [State.takeFault, if_pos contained]
    refine ⟨?_, ?_, ?_, fun source segment profile => ?_⟩
    · rintro j rfl
      rfl
    · rintro j rfl
      rfl
    · rintro r g rfl
      rfl
    · cases f
      case source j => exact absurd rfl (source j)
      case segment j => exact absurd rfl (segment j)
      case profile r g => exact absurd rfl (profile r g)
      all_goals rfl

end Sys2Proof.Machine

/-!
The end of an event (R71, R151, R157): what its rounds change with the checks disabled, which flags they raise, how many there
are, and which burst is given the shared pins.
-/

namespace Sys2Proof.Machine

/-! ## Rounds with the checks disabled -/

/-- Responses have been sent, and contexts of delivery lists released: nothing else but the ports has changed. -/
structure Delivered (s t : State) : Prop where
  frame : t = { s with ports := t.ports, ctxs := t.ctxs, counts := t.counts }
  delivery : ∀ p, ∀ i ∈ (t.port p).delivery, i ∈ (s.port p).delivery
  ctx : ∀ i, t.ctx i = s.ctx i ∨ t.ctx i = .free ∧ ∃ p, i ∈ (s.port p).delivery

theorem Delivered.refl (s : State) : Delivered s s := ⟨rfl, fun _ _ => id, fun _ => .inl rfl⟩

theorem Delivered.trans {s t u : State} (a : Delivered s t) (b : Delivered t u) : Delivered s u := by
  obtain ⟨aframe, adelivery, actx⟩ := a
  obtain ⟨bframe, bdelivery, bctx⟩ := b
  refine ⟨bframe.trans (by rw [aframe]), fun p i hi => adelivery p i (bdelivery p i hi), fun i => ?_⟩
  obtain same | ⟨free, p, hi⟩ := bctx i
  · rw [same]
    exact actx i
  · exact .inr ⟨free, p, adelivery p i hi⟩

/-- The note of the flags does not matter to what is delivered. -/
theorem Delivered.withRaised {s t : State} (h : Delivered s t) (x : BitVec 64) :
    Delivered { s with raised := x } { t with raised := x } := by
  obtain ⟨frame, delivery, ctx⟩ := h
  refine ⟨?_, delivery, ctx⟩
  generalize hp : t.ports = ports, hc : t.ctxs = ctxs, hn : t.counts = counts at frame
  rw [frame]

theorem Delivered.checks {s t : State} (h : Delivered s t) : t.checks = s.checks := by rw [h.frame]
theorem Delivered.raised {s t : State} (h : Delivered s t) : t.raised = s.raised := by rw [h.frame]

theorem delivered_join (s : State) (p : Port) (f : List Word) : Delivered s (s.join p f) :=
  ⟨rfl, fun q i hi => by rwa [delivery_join] at hi, fun _ => .inl rfl⟩

theorem delivered_foldl {α : Type} {f : State → α → State} (h : ∀ s a, s.checks = false → Delivered s (f s a)) (l : List α)
    {s : State} (off : s.checks = false) : Delivered s (l.foldl f s) := by
  induction l generalizing s with
  | nil => exact .refl s
  | cons a l ih => exact (h s a off).trans (ih ((h s a off).checks.trans off))

section
variable {s : State} (off : s.checks = false)
include off

theorem sourceFaults_off (j : SourceId) : s.sourceFaults j = false := by simp [State.sourceFaults, off]
theorem contextFaults_off (i : CtxId) : s.contextFaults i = false := by simp [State.contextFaults, off]
theorem egressFaults_off : s.egressFaults = false := by simp [State.egressFaults, off]

theorem delivered_serveHead (p : Port) : Delivered s (s.serveHead p) := by
  cases head : (s.port p).delivery with
  | nil =>
    rw [State.serveHead, head]
    exact .refl s
  | cons i rest =>
    rw [serveHead_response head (contextFaults_off off i) (egressFaults_off off)]
    refine ⟨rfl, fun q j hj => ?_, fun j => ?_⟩
    · have left : j ∈ ((s.setPort p { s.port p with delivery := rest }).port q).delivery := by
        rw [← delivery_join _ p (s.ctx i).response]
        exact hj
      by_cases hq : q = p
      · subst hq
        rw [port_setPort] at left
        rw [head]
        exact List.mem_cons_of_mem i left
      · rwa [port_setPort_ne _ _ hq] at left
    · by_cases hj : j = i
      · subst hj
        exact .inr ⟨ctx_setCtx _ j _, p, by simp [head]⟩
      · exact .inl (ctx_setCtx_ne _ _ hj)

omit off in
theorem delivered_serveFuel (n : Nat) {s : State} (off : s.checks = false) : Delivered s (State.serveFuel n s) := by
  induction n generalizing s with
  | zero => exact .refl s
  | succ n ih =>
    cases hp : s.serviceablePort with
    | none =>
      rw [serveFuel_none s n hp]
      exact .refl s
    | some p =>
      rw [serveFuel_some s n hp]
      have head := delivered_serveHead off p
      exact head.trans (ih (head.checks.trans off))

theorem delivered_serveAll : Delivered s s.serveAll := delivered_serveFuel 32 off

theorem delivered_offerTo (j : SourceId) : Delivered s (s.offerTo j) := by
  rw [State.offerTo, if_neg (by simp [sourceFaults_off off])]
  split
  · unfold State.offerAlert
    dsimp only
    split
    · rw [if_neg (by simp [egressFaults_off off])]
      exact delivered_join s _ _
    · exact .refl s
  · exact .refl s

theorem delivered_alertRound : Delivered { s with raised := 0 } s.alertRound :=
  delivered_foldl (fun _ j off => delivered_offerTo off j) _ (by exact off)

end

/-! ## The rounds -/

theorem alertDue_iff (s : State) : s.alertDue = true ↔ s.raised &&& enabledFlags s.alertMask ≠ 0 := by
  simp [State.alertDue]

theorem not_alertDue_iff (s : State) : s.alertDue = false ↔ s.raised &&& enabledFlags s.alertMask = 0 := by
  simp [State.alertDue]

theorem not_alertDue_of_raised {s : State} (none : s.raised = 0) : s.alertDue = false :=
  (not_alertDue_iff s).mpr (by rw [none]; exact BitVec.zero_and)

theorem offerFuel_due {s : State} (n : Nat) (due : s.alertDue = true) :
    State.offerFuel (n + 1) s = State.offerFuel n s.alertRound := if_pos due

theorem offerFuel_idle {s : State} (n : Nat) (idle : s.alertDue = false) : State.offerFuel n s = { s with raised := 0 } := by
  cases n with
  | zero => rfl
  | succ n => exact if_neg (by simp [idle])

theorem withRaised_self {s : State} (none : s.raised = 0) : { s with raised := 0 } = s := by rw [← none]

/-- With the checks disabled a round raises no flag, and is the last. -/
theorem offerFuel_due_off {s : State} (n : Nat) (off : s.checks = false) (due : s.alertDue = true) :
    State.offerFuel (n + 1) s = s.alertRound := by
  have none : s.alertRound.raised = 0 := (delivered_alertRound off).raised
  rw [offerFuel_due n due, offerFuel_idle n (not_alertDue_of_raised none), withRaised_self none]

theorem delivered_rounds {s : State} (off : s.checks = false) : Delivered { s with raised := 0 } s.rounds := by
  have served := delivered_serveAll off
  refine (served.withRaised 0).trans ?_
  cases due : s.serveAll.alertDue with
  | false =>
    rw [State.rounds, offerFuel_idle 3 due]
    exact .refl _
  | true =>
    rw [State.rounds, offerFuel_due_off 2 (served.checks.trans off) due]
    exact delivered_alertRound (served.checks.trans off)

/-! ## The flags that a round raises -/

/-- A round raises CONTAINED and FURTHER_FAULT at most, where they were clear. -/
theorem alertRound_flags (s : State) :
    s.alertRound.alerts = s.alerts ||| s.alertRound.raised ∧ s.alertRound.raised &&& s.alerts = 0 ∧
      s.alertRound.raised &&& ~~~3#64 = 0 := by
  obtain ⟨m, only, set, noted⟩ := faultFlags_alertRound s
  have raised : s.alertRound.raised = m &&& ~~~s.alerts := noted.trans BitVec.zero_or
  have alerts : s.alertRound.alerts = s.alerts ||| m := set
  clear set noted
  refine ⟨?_, ?_, ?_⟩
  · rw [alerts, raised]
    ext i
    simp only [BitVec.getElem_or, BitVec.getElem_and, BitVec.getElem_not]
    cases s.alerts[i] <;> simp
  · rw [raised, BitVec.and_assoc, BitVec.and_comm (~~~_), BitVec.and_not_self]
    exact BitVec.and_zero
  · rw [raised, BitVec.and_assoc, BitVec.and_comm (~~~_), ← BitVec.and_assoc, only]
    exact BitVec.zero_and

/-- Of two flags three disjoint sets cannot all hold one. -/
theorem third_flags_zero {x y z : BitVec 64} (hx : x &&& ~~~3#64 = 0) (hy : y &&& ~~~3#64 = 0) (hz : z &&& ~~~3#64 = 0)
    (xy : y &&& x = 0) (xz : z &&& x = 0) (yz : z &&& y = 0) (x0 : x ≠ 0) (y0 : y ≠ 0) : z = 0 := by
  have low {v : BitVec 64} (hv : v &&& ~~~3#64 = 0) : ∃ w : BitVec 2, v = w.setWidth 64 := by
    refine ⟨v.setWidth 2, BitVec.eq_of_getLsbD_eq fun i hi => ?_⟩
    match i with
    | 0 | 1 => simp
    | i + 2 =>
      have three : (3#64).getLsbD (i + 2) = false := by
        rw [BitVec.getLsbD_ofNat]
        simp [Nat.testBit_succ]
      have bit : (v &&& ~~~3#64).getLsbD (i + 2) = false := by
        rw [hv]
        exact BitVec.getLsbD_zero
      rw [BitVec.getLsbD_and, BitVec.getLsbD_not, three] at bit
      simpa [hi] using bit
  obtain ⟨x, rfl⟩ := low hx
  obtain ⟨y, rfl⟩ := low hy
  obtain ⟨z, rfl⟩ := low hz
  clear hx hy hz
  revert x y z
  decide

end Sys2Proof.Machine

/-!
The end of an event (R71, R156, R157): its three rounds at most, the flags of each kind, an offer to one source, and the grant of
the shared pins.
-/

namespace Sys2Proof.Machine

/-! ## How many rounds there are (R157) -/

section
variable {s : State}

theorem rounds_idle (a : s.serveAll.alertDue = false) : s.rounds = { s.serveAll with raised := 0 } :=
  offerFuel_idle 3 a

theorem rounds_one (a : s.serveAll.alertDue = true) (b : s.serveAll.alertRound.alertDue = false) :
    s.rounds = { s.serveAll.alertRound with raised := 0 } :=
  (offerFuel_due 2 a).trans (offerFuel_idle 2 b)

theorem rounds_two (a : s.serveAll.alertDue = true) (b : s.serveAll.alertRound.alertDue = true)
    (c : s.serveAll.alertRound.alertRound.alertDue = false) :
    s.rounds = { s.serveAll.alertRound.alertRound with raised := 0 } :=
  ((offerFuel_due 2 a).trans (offerFuel_due 1 b)).trans (offerFuel_idle 1 c)

theorem rounds_three (a : s.serveAll.alertDue = true) (b : s.serveAll.alertRound.alertDue = true)
    (c : s.serveAll.alertRound.alertRound.alertDue = true) :
    s.rounds = { s.serveAll.alertRound.alertRound.alertRound with raised := 0 } :=
  ((offerFuel_due 2 a).trans (offerFuel_due 1 b)).trans (offerFuel_due 0 c)

end

theorem raised_of_alertDue {s : State} (due : s.alertDue = true) : s.raised ≠ 0 := fun none => by
  rw [not_alertDue_of_raised none] at due
  cases due

/-- The first two rounds raise both flags, so the third raises none. -/
theorem not_alertDue_third {s : State} (first : s.alertRound.alertDue = true)
    (second : s.alertRound.alertRound.alertDue = true) : s.alertRound.alertRound.alertRound.alertDue = false := by
  obtain ⟨alerts₁, -, only₁⟩ := alertRound_flags s
  obtain ⟨alerts₂, new₂, only₂⟩ := alertRound_flags s.alertRound
  obtain ⟨-, new₃, only₃⟩ := alertRound_flags s.alertRound.alertRound
  have apart {x y z : BitVec 64} (h : x &&& (y ||| z) = 0) : x &&& y = 0 ∧ x &&& z = 0 := by
    rw [BitVec.and_or_distrib_left] at h
    exact BitVec.or_eq_zero_iff.mp h
  rw [alerts₂] at new₃
  obtain ⟨old₃, new₃₂⟩ := apart new₃
  rw [alerts₁] at new₂ old₃
  exact not_alertDue_of_raised (third_flags_zero only₁ only₂ only₃ (apart new₂).2 (apart old₃).2 new₃₂
    (raised_of_alertDue first) (raised_of_alertDue second))

/-! ## The flags -/

theorem AlertFlag.place_lt (f : AlertFlag) : f.place < 64 := by
  cases f <;> simp only [AlertFlag.place]
  case frameError p | overrun p => cases p <;> decide
  all_goals omega

theorem portIndex_injective {p q : Port} (h : portIndex p = portIndex q) : p = q := by
  cases p <;> cases q <;> trivial

theorem getLsbD_bit (f : AlertFlag) (n : Nat) : f.bit.getLsbD n = decide (n = f.place) := by
  have lt := f.place_lt
  rw [AlertFlag.bit, BitVec.getLsbD_shiftLeft, BitVec.getLsbD_one]
  rw [Bool.eq_iff_iff]
  simp
  omega

/-- The place of a flag's kind in Table 11-2. -/
def AlertFlag.kind : AlertFlag → Nat
  | .contained => 0
  | .furtherFault => 1
  | .patrolMismatch _ => 2
  | .trainDone _ => 3
  | .trainFailed _ => 4
  | .profileApplied _ => 5
  | .regionLost _ => 6
  | .frameError _ => 7
  | .overrun _ => 8

theorem AlertFlag.kind_lt (f : AlertFlag) : f.kind < 9 := by cases f <;> simp [AlertFlag.kind]

theorem getLsbD_kindFlags (k : Fin 9) (f : AlertFlag) : (kindFlags k).getLsbD f.place = decide (k.val = f.kind) := by
  cases f
  case contained | furtherFault => revert k; decide
  case frameError p | overrun p => cases p <;> revert k <;> decide
  all_goals rename_i r; revert k r; decide

theorem AlertFlag.kind_eq_of_place {e f : AlertFlag} (h : e.place = f.place) : e.kind = f.kind := by
  have bit := getLsbD_kindFlags ⟨e.kind, e.kind_lt⟩ f
  rw [← h, getLsbD_kindFlags] at bit
  simpa using bit

theorem AlertFlag.place_injective {e f : AlertFlag} (h : e.place = f.place) : e = f := by
  have kinds := AlertFlag.kind_eq_of_place h
  cases e <;> cases f <;> simp [AlertFlag.kind] at kinds
  case contained.contained | furtherFault.furtherFault => rfl
  all_goals have same := Nat.add_left_cancel h
  case frameError.frameError | overrun.overrun => rw [portIndex_injective same]
  all_goals rw [Fin.ext same]

/-- A flag is enabled with its kind (R156). -/
theorem getLsbD_enabledFlags (mask : BitVec 9) (f : AlertFlag) :
    (enabledFlags mask).getLsbD f.place = mask.getLsbD f.kind := by
  have added (c : Bool) (a k : BitVec 64) (n : Nat) :
      (if c then a ||| k else a).getLsbD n = (a.getLsbD n || c && k.getLsbD n) := by
    cases c <;> simp
  have kind (k : Nat) (hk : k < 9) : (kindFlags k).getLsbD f.place = decide (k = f.kind) := getLsbD_kindFlags ⟨k, hk⟩ f
  rw [enabledFlags]
  simp only [List.foldl, added, kind, Nat.reduceLT]
  cases f <;> simp [AlertFlag.kind]

/-! ## The end of an event -/

theorem length_add_two_le_iff (x : PortState) : x.egress.length + 2 ≤ 16 ↔ 2 ≤ x.freeSlots :=
  (le_freeSlots_iff (Nat.succ_pos _)).symm

theorem alertFrame_eq (j : SourceId) (flags : BitVec 64) :
    alertFrame j flags = [word (4 + 3 * 128 + j.val * 16384), flags.extractLsb' 0 32, flags.extractLsb' 32 32] := by
  simp [alertFrame, headerWord]

section
variable (s : State) (j : SourceId)

theorem offerTo_table (fault : s.sourceFaults j = true) : s.offerTo j = (s.faultAt .table (.source j)).serveAll :=
  if_pos fault

theorem offerTo_target (sound : s.sourceFaults j = false) (valid : (s.source j).valid = true)
    (target : (s.source j).alertTarget = true) : s.offerTo j = s.offerAlert j := by
  rw [State.offerTo, if_neg (by simp [sound]), if_pos (by simp [valid, target])]

theorem offerTo_other (sound : s.sourceFaults j = false)
    (other : ¬((s.source j).valid = true ∧ (s.source j).alertTarget = true)) : s.offerTo j = s := by
  rw [State.offerTo, if_neg (by simp [sound]), if_neg (by simpa using other)]

variable (room : (s.port (s.source j).port).txOn = true ∧ (s.port (s.source j).port).egress.length + 2 ≤ 16)
include room

theorem offerAlert_egress (fault : s.egressFaults = true) :
    s.offerAlert j = (s.faultAt .egress (.egress (s.source j).port none)).serveAll := by
  rw [length_add_two_le_iff] at room
  rw [State.offerAlert, if_pos (by simpa using room), if_pos fault]

theorem offerAlert_joins (sound : s.egressFaults = false) :
    s.offerAlert j = s.join (s.source j).port (alertFrame j s.alerts) := by
  rw [length_add_two_le_iff] at room
  rw [State.offerAlert, if_pos (by simpa using room), if_neg (by simp [sound])]

omit room in
theorem offerAlert_skipped
    (full : ¬((s.port (s.source j).port).txOn = true ∧ (s.port (s.source j).port).egress.length + 2 ≤ 16)) :
    s.offerAlert j = s := by
  rw [length_add_two_le_iff] at full
  rw [State.offerAlert, if_neg (by simpa using full)]

end

/-- Settles O51. -/
theorem eventEnd : Obligations.EventEnd := by
  refine ⟨fun s off => ?_, fun s f => ⟨?_, fun e he => ?_, ?_⟩, fun s => ⟨fun idle => ?_, fun due off => ?_⟩,
    ⟨alertRound_flags, fun s => ⟨fun a b => ?_, fun a b c => ?_, fun a b c => ⟨?_, ?_⟩⟩⟩, fun s => ?_,
    fun mask r p => ?_, fun s j => ⟨offerTo_table s j, fun sound skip => ?_, fun sound target room fault => ?_,
      fun sound target room noFault => ?_⟩⟩
  · obtain ⟨frame, -, ctx⟩ := delivered_rounds off
    have calm : Calm false s s.rounds := (calm_serveAll s).trans (calm_offerFuel 3 _)
    refine ⟨frame, fun p => ?_, ctx⟩
    obtain ⟨rx, tx, ingress, signals, -⟩ := calm.ports p
    exact ⟨rx, tx, ingress, signals⟩
  · simp [State.alert, State.raise, getLsbD_bit]
  · have place : e.place ≠ f.place := fun h => he (AlertFlag.place_injective h)
    simp [State.alert, State.raise, getLsbD_bit, place]
  · simp [State.alert, State.raise, getLsbD_bit, AlertFlag.place_lt]
  · exact rounds_idle ((not_alertDue_iff _).mpr idle)
  · exact offerFuel_due_off 2 off ((alertDue_iff _).mpr due)
  · exact rounds_one ((alertDue_iff _).mpr a) ((not_alertDue_iff _).mpr (not_not.mp b))
  · exact rounds_two ((alertDue_iff _).mpr a) ((alertDue_iff _).mpr b) ((not_alertDue_iff _).mpr (not_not.mp c))
  · exact rounds_three ((alertDue_iff _).mpr a) ((alertDue_iff _).mpr b) ((alertDue_iff _).mpr c)
  · exact not_not.mpr ((not_alertDue_iff _).mp (not_alertDue_third ((alertDue_iff _).mpr b) ((alertDue_iff _).mpr c)))
  · refine ⟨finish_frame s, fun r held => grantPins_held held, fun free none => ?_, fun q free burst => ?_,
      fun r b held burst => ?_⟩
    · refine grantPins_idle (List.eq_nil_iff_forall_not_mem.mpr fun r hr => ?_)
      have some := mem_onBus.mp hr
      rw [none r] at some
      cases some
    · obtain ⟨r, hr, pins⟩ := grantPins_some free (List.ne_nil_of_mem (mem_onBus.mpr burst))
      exact ⟨r, pins, mem_onBus.mp hr⟩
    · unfold State.deviceClock
      rw [held]
      dsimp only [Option.bind]
      rw [burst]
  · have kind := getLsbD_enabledFlags mask
    exact ⟨kind .contained, kind .furtherFault, kind (.patrolMismatch r), kind (.trainDone r), kind (.trainFailed r),
      kind (.profileApplied r), kind (.regionLost r), kind (.frameError p), kind (.overrun p)⟩
  · by_cases target : (s.source j).valid = true ∧ (s.source j).alertTarget = true
    · rw [offerTo_target s j sound target.1 target.2]
      exact offerAlert_skipped s j fun room => skip ⟨target, room⟩
    · exact offerTo_other s j sound target
  · rw [offerTo_target s j sound target.1 target.2]
    exact offerAlert_egress s j room fault
  · rw [offerTo_target s j sound target.1 target.2, offerAlert_joins s j room noFault, alertFrame_eq]
    rfl

end Sys2Proof.Machine

/-!
The device reset (R38, R121, R123, R159): the words of the write bursts on the buses, and the reset values.
-/

namespace Sys2Proof.Machine

/-! ## The bytes that a burst leaves -/

theorem byte_landFrom_ne {b : Burst} {r : RegionId} {taken : Nat → Bool} {x : Nat} {as : List Nat}
    (h : ∀ a ∈ as, a < Config.regionWords → ∀ k < 4, x ≠ byteAddr r a k) (n : Nat) (ds : List (Word × BitVec 4))
    (m : Memory) : (b.landFrom r taken n as ds m).byte x = m.byte x := by
  induction as generalizing n ds m with
  | nil => cases ds <;> rfl
  | cons a as ih =>
    cases ds with
    | nil => rfl
    | cons d ds =>
      rw [Burst.landFrom, ih fun a' ha => h a' (List.mem_cons_of_mem a ha)]
      split
      case isTrue on =>
        simp only [Bool.and_eq_true, decide_eq_true_eq] at on
        exact byte_writeWord_ne m r a d _ fun k hk => h a List.mem_cons_self on.2 k hk
      case isFalse => rfl

theorem byte_land_ne {b : Burst} {r : RegionId} {taken : Nat → Bool} {x : Nat} {m : Memory}
    (h : b.write = true → ∀ a ∈ b.addrs, a < Config.regionWords → ∀ k < 4, x ≠ byteAddr r a k) :
    (b.land r taken m).byte x = m.byte x := by
  unfold Burst.land
  split
  case isTrue write => exact byte_landFrom_ne (h write) 0 b.data m
  case isFalse => rfl

/-- A lane that a word's byte enable does not set keeps its byte; one that it sets holds the word's lane. -/
theorem byte_land_word {b : Burst} {r : RegionId} {taken : Nat → Bool} {m : Memory} (hm : m.wf = true)
    (write : b.write = true) (linear : b.wrap = false) (inRange : b.inRange = true) (length : b.data.length = b.len)
    {k : Nat} {w : Word} {e : BitVec 4} (hd : b.data[k]? = some (w, e)) {l : Nat} (hl : l < 4) :
    (b.land r taken m).byte (byteAddr r (b.addr + k) l) =
      if taken k = true ∧ e.getLsbD l = true then lane w l else m.byte (byteAddr r (b.addr + k) l) := by
  have lt : k < b.len := length ▸ (List.getElem?_eq_some_iff.mp hd).1
  split
  case isTrue on =>
    obtain ⟨ht, on⟩ := on
    exact congrArg Prod.fst (cell_land_same hm write linear inRange lt hd ht hl on)
  case isFalse off =>
    refine congrArg Prod.fst (cell_land_other hm write linear fun k' d _ hd' ht l' hl' on same => off ?_)
    obtain ⟨addr, rfl⟩ := byteAddr_inj hl hl' same
    obtain rfl : k = k' := by omega
    obtain rfl := Option.some.inj (hd.symm.trans hd')
    exact ⟨ht, on⟩

/-! ## The bursts that a reset takes off their buses -/

/-- The words of a region's burst that its device takes at a reset. -/
def State.landsAtReset (s : State) (r : RegionId) (b : Burst) (k : Nat) : Bool :=
  s.carriedOut b || Config.wordLands (s.freeCount + 16 * r.val + k)

/-- Attached memory after a reset has taken the burst of one region off its bus. -/
def State.landOne (s : State) (m : Memory) (r : RegionId) : Memory :=
  match (s.region r).burst with
  | some b => b.land r (s.landsAtReset r b) m
  | none => m

theorem memAfterReset_eq (s : State) : s.memAfterReset = (List.finRange 8).foldl s.landOne s.mem := rfl

section
variable {s : State} {r : RegionId}

theorem landOne_burst {b : Burst} (hb : (s.region r).burst = some b) (m : Memory) :
    s.landOne m r = b.land r (s.landsAtReset r b) m := by
  rw [State.landOne, hb]

theorem landOne_none (hb : (s.region r).burst = none) (m : Memory) : s.landOne m r = m := by
  rw [State.landOne, hb]

theorem wf_landOne {m : Memory} (hm : m.wf = true) : (s.landOne m r).wf = true := by
  cases hb : (s.region r).burst with
  | none => rwa [landOne_none hb]
  | some b =>
    rw [landOne_burst hb]
    exact wf_land b r _ hm

/-- The byte is none of those that a write burst on the bus of region `r` writes. -/
def State.Untouched (s : State) (r : RegionId) (x : Nat) : Prop :=
  ∀ b, (s.region r).burst = some b → b.write = true → ∀ a ∈ b.addrs, a < Config.regionWords → ∀ k < 4, x ≠ byteAddr r a k

theorem byte_landOne {x : Nat} (h : s.Untouched r x) (m : Memory) : (s.landOne m r).byte x = m.byte x := by
  cases hb : (s.region r).burst with
  | none => rw [landOne_none hb]
  | some b =>
    rw [landOne_burst hb]
    exact byte_land_ne (h b hb)

theorem byte_landAll {x : Nat} {l : List RegionId} (h : ∀ q ∈ l, s.Untouched q x) (m : Memory) :
    (l.foldl s.landOne m).byte x = m.byte x := by
  induction l generalizing m with
  | nil => rfl
  | cons q l ih =>
    rw [List.foldl_cons, ih fun p hp => h p (List.mem_cons_of_mem q hp), byte_landOne (h q List.mem_cons_self)]

theorem wf_landAll {l : List RegionId} {m : Memory} (hm : m.wf = true) : (l.foldl s.landOne m).wf = true := by
  induction l generalizing m with
  | nil => exact hm
  | cons q l ih => exact ih (wf_landOne hm)

/-- The words of a region lie apart from those of the other regions. -/
theorem untouched_of_ne {q : RegionId} (hq : q ≠ r) {a k : Nat} (ha : a < Config.regionWords) (hk : k < 4) :
    s.Untouched q (byteAddr r a k) := by
  intro b _ _ a' _ ha' k' hk' same
  refine hq (Fin.ext ?_)
  simp only [byteAddr, Config.regionWords] at *
  omega

/-- A word of a linear write burst after the reset: its enabled lanes where the device has taken it. -/
theorem byte_memAfterReset_word {b : Burst} (wf : s.mem.wf = true) (hb : (s.region r).burst = some b)
    (write : b.write = true) (linear : b.wrap = false) (inRange : b.inRange = true) (length : b.data.length = b.len)
    {k : Nat} {w : Word} {e : BitVec 4} (hd : b.data[k]? = some (w, e)) {l : Nat} (hl : l < 4) :
    s.memAfterReset.byte (byteAddr r (b.addr + k) l) =
      if s.landsAtReset r b k = true ∧ e.getLsbD l = true then lane w l else s.mem.byte (byteAddr r (b.addr + k) l) := by
  have lt : k < b.len := length ▸ (List.getElem?_eq_some_iff.mp hd).1
  have room : b.addr + k < Config.regionWords :=
    addrs_inRange inRange _ (List.mem_of_getElem? (by rw [getElem?_addrs_linear linear, if_pos lt]))
  obtain ⟨before, after, split⟩ := List.mem_iff_append.mp (List.mem_finRange r)
  have distinct := List.nodup_finRange 8
  rw [split, List.nodup_middle, List.nodup_cons] at distinct
  have others (q : RegionId) (hq : q ∈ before ++ after) : s.Untouched q (byteAddr r (b.addr + k) l) :=
    untouched_of_ne (ne_of_mem_of_not_mem hq distinct.1) room hl
  rw [memAfterReset_eq, split, List.foldl_append, List.foldl_cons,
    byte_landAll fun q hq => others q (List.mem_append_right before hq), landOne_burst hb,
    byte_land_word (wf_landAll wf) write linear inRange length hd hl,
    byte_landAll fun q hq => others q (List.mem_append_left after hq)]

theorem carriedOut_of {b : Burst} {i : CtxId} (live : b.abandoned = false) (owner : b.owner = .ctx i)
    (append : (s.ctx i).kind ≠ .append) (restart : (s.ctx i).kind ≠ .journalRestart) : s.carriedOut b = true := by
  have journal : (s.ctx i).kind.isJournal = false := by
    generalize (s.ctx i).kind = kind at append restart
    cases kind <;> trivial
  simp [State.carriedOut, live, owner, journal]

end

/-! ## The reset values -/

theorem reset_source_ne {i : SourceId} (hi : i ≠ 0) : State.reset.sources[i] = emptyEntry := by
  have ne : (0 : Nat) ≠ i.val := fun e => hi (Fin.ext e.symm)
  simp [State.reset, ne]

/-- Settles O2. -/
theorem deviceResetValues : Obligations.DeviceResetValues := by
  intro s
  refine ⟨_, rfl, rfl, fun i hi => reset_source_ne hi, fun i => by simp [State.reset, Descriptor.reset], reset_empty.ctxs, fun j => ?_,
    fun j k => ?_, fun r => ?_, rfl, rfl, rfl, rfl, rfl, fun p hp => ?_, rfl, rfl, rfl, rfl, rfl, rfl, rfl, rfl, rfl, rfl,
    rfl, fun x outside => ?_, fun r b wf hb write linear inRange length k w e hd => ?_⟩
  · simp [State.count, State.reset]
  · simp [State.cursor, State.reset, Cursor.unset]
  · simp [State.region, State.reset, Region.reset, Groups.none]
  · cases p
    case A => exact absurd rfl hp
    all_goals rfl
  · exact byte_landAll (fun q _ b hb write a ha _ => outside q b hb write a ha) s.mem
  · dsimp only
    have word {l : Nat} (hl : l < 4) := byte_memAfterReset_word wf hb write linear inRange length hd hl
    have new (taken : s.landsAtReset r b k = true) (l : Nat) (hl : l < 4) :
        s.memAfterReset.byte (byteAddr r (b.addr + k) l) =
          if e.getLsbD l then lane w l else s.mem.byte (byteAddr r (b.addr + k) l) := by
      rw [word hl, taken]
      simp only [true_and]
    refine ⟨?_, fun i live owner append restart => new ?_⟩
    · by_cases taken : s.landsAtReset r b k = true
      · exact .inr (new taken)
      · exact .inl fun l hl => by rw [word hl, if_neg fun h => taken h.1]
    · rw [State.landsAtReset, carriedOut_of live owner append restart, Bool.true_or]

end Sys2Proof.Machine

/-!
The decoder on the encoder's frames (R147, R160, R161; Chapter 12): the fields of each layout, and from them each row.
-/

namespace Sys2Proof.Machine

/-! ## The fields of a word -/

theorem field_word {lo k : Nat} (n : Nat) (fit : lo + k ≤ 32) : field (word n) lo k = n / 2 ^ lo % 2 ^ k := by
  refine Nat.eq_of_testBit_eq fun i => ?_
  rw [field, word, BitVec.toNat_ofNat]
  simp only [Nat.testBit_mod_two_pow, Nat.testBit_div_two_pow]
  by_cases hi : i < k
  · have low : i + lo < 32 := by omega
    simp [hi, low]
  · simp [hi]

theorem field_word_of_lt {k n : Nat} (fit : k ≤ 32) (lt : n < 2 ^ k) : field (word n) 0 k = n := by
  rw [field_word n (by omega), Nat.pow_zero, Nat.div_one, Nat.mod_eq_of_lt lt]

theorem bitNat_lt (b : Bool) : bitNat b < 2 := by cases b <;> decide

theorem flagBit_of_field {w : Word} {k : Nat} {b : Bool} (h : field w k 1 = bitNat b) : flagBit w k = b := by
  rw [flagBit, h]
  cases b <;> rfl

theorem portCode_lt (p : Port) : p.code < 4 := by cases p <;> decide
theorem ofCode_portCode (p : Port) : Port.ofCode p.code = p := by cases p <;> rfl
theorem segKindCode_lt (k : SegKind) : k.code < 4 := by cases k <;> decide
theorem ofCode_segKindCode (k : SegKind) : SegKind.ofCode k.code = k := by cases k <;> rfl
theorem ofBool_isInterchange (o : WordOrder) : WordOrder.ofBool o.isInterchange = o := by cases o <;> rfl

theorem ofNat_val {n : Nat} [NeZero n] (i : Fin n) : Fin.ofNat n i.val = i := Fin.ofNat_val_eq_self i

/-! ## Frames -/

section
variable {len cls code : Nat} (h : Hdr) (hl : len < 128) (hc : cls < 4) (hr : code < 32)
include hl hc hr

theorem fields_headerWord :
    field (headerWord len cls code h) 0 7 = len ∧ frameClass (headerWord len cls code h) = cls ∧
      frameCode (headerWord len cls code h) = code ∧ frameHdr (headerWord len cls code h) = h := by
  have src := h.src.isLt
  have tag := h.tag.isLt
  have fields : field (headerWord len cls code h) 14 6 = h.src ∧ field (headerWord len cls code h) 20 12 = h.tag.toNat := by
    rw [headerWord, field_word _ (by decide), field_word _ (by decide)]
    omega
  refine ⟨?_, ?_, ?_, ?_⟩
  · rw [headerWord, field_word _ (by decide)]
    omega
  · rw [frameClass, headerWord, field_word _ (by decide)]
    omega
  · rw [frameCode, headerWord, field_word _ (by decide)]
    omega
  · rw [frameHdr, fields.1, fields.2, ofNat_val, BitVec.ofNat_toNat, BitVec.setWidth_eq]

end

theorem setWidth_checkWord (ws : List Word) : (checkWord ws).setWidth 16 = crc ws := by
  rw [checkWord, BitVec.setWidth_setWidth_of_le _ (by decide), BitVec.setWidth_eq]

theorem frameBody_buildFrame (cls code : Nat) (h : Hdr) (body : List Word) : frameBody (buildFrame cls code h body) = body := by
  simp [frameBody, buildFrame, withCheck]

/-- The frame is good, and command `c` takes it on port `p`. -/
def TakesFrame (c : Instr) (p : Port) (ws : List Word) : Prop := goodFrame ws false = true ∧ frameInstr p ws = c

section
variable {code : Nat} {h : Hdr} {body : List Word} {c : Instr} {p : Port}

theorem goodFrame_buildFrame {cls : Nat} (hc : cls < 4) (hr : code < 32) (some : body ≠ []) (fit : body.length ≤ 68) :
    goodFrame (buildFrame cls code h body) false = true := by
  have pos := List.length_pos_iff.mpr some
  obtain ⟨declared, -⟩ := fields_headerWord h (len := body.length + 2) (by omega) hc hr
  have length : (buildFrame cls code h body).length = body.length + 2 := by simp [buildFrame, withCheck]
  refine (goodFrame_iff _ _).mpr ⟨rfl, by omega, by omega, ?_, ?_⟩
  · rw [field_zero] at declared
    rw [length]
    exact declared
  · have last : (buildFrame cls code h body).getLastD 0 = checkWord (headerWord (body.length + 2) cls code h :: body) :=
      List.getLastD_concat
    have rest : (buildFrame cls code h body).dropLast = headerWord (body.length + 2) cls code h :: body :=
      List.dropLast_concat
    rw [last, rest, setWidth_checkWord]

theorem takesFrame_data (hr : code < 32) (some : body ≠ []) (fit : body.length ≤ 68)
    (row : decodeData p h code body = .some c) : TakesFrame c p (buildFrame 0 code h body) := by
  refine ⟨goodFrame_buildFrame (by decide) hr some fit, ?_⟩
  obtain ⟨-, cls, code', hdr⟩ := fields_headerWord h (len := body.length + 2) (by omega) (show 0 < 4 by decide) hr
  have head : (buildFrame 0 code h body).headD 0 = headerWord (body.length + 2) 0 code h := rfl
  rw [frameInstr, head, cls, code', hdr, frameBody_buildFrame, row]
  rfl

theorem takesFrame_manage (hr : code < 32) (some : body ≠ []) (fit : body.length ≤ 68)
    (row : decodeManage p h code body = .some c) : TakesFrame c p (buildFrame 1 code h body) := by
  refine ⟨goodFrame_buildFrame (by decide) hr some fit, ?_⟩
  obtain ⟨-, cls, code', hdr⟩ := fields_headerWord h (len := body.length + 2) (by omega) (show 1 < 4 by decide) hr
  have head : (buildFrame 1 code h body).headD 0 = headerWord (body.length + 2) 1 code h := rfl
  rw [frameInstr, head, cls, code', hdr, frameBody_buildFrame, row]
  rfl

end

end Sys2Proof.Machine

/-!
The rows that the encoder's frames name (Tables 12-2 to 12-4 and 12-8): every operand is read back from the field that carries it.
-/

namespace Sys2Proof.Machine

/-! ## The layouts of the data operands -/

section
variable (seg : SegNo) (ring : Ring)

theorem operands_wordA {len : Nat} (hl : len < 128) :
    segOf (wordA seg ring len) = seg ∧ ringOf (wordA seg ring len) = ring ∧ lenOf (wordA seg ring len) = len := by
  have hs := seg.isLt
  have hr := ring.isLt
  have fields : field (wordA seg ring len) 0 9 = seg ∧ field (wordA seg ring len) 9 2 = ring := by
    rw [wordA, field_word _ (by decide), field_word _ (by decide)]
    omega
  refine ⟨?_, ?_, ?_⟩
  · rw [segOf, fields.1, ofNat_val]
  · rw [ringOf, fields.2, ofNat_val]
  · rw [lenOf, wordA, field_word _ (by decide)]
    omega

theorem cursorOf_of_field {a : Word} {cur : Fin 2} (h : field a 12 2 = cur) : cursorOf a = some cur := by
  rw [cursorOf, dif_pos (by rw [h]; exact cur.isLt)]
  exact congrArg some (Fin.ext h)

theorem cursorOf_wordC (cur : Fin 2) : cursorOf (wordC cur) = some cur := by
  have hc := cur.isLt
  refine cursorOf_of_field ?_
  rw [wordC, field_word _ (by decide)]
  omega

theorem operands_wordAC (cur : Fin 2) {size : Nat} (hs : size < 16) :
    segOf (wordAC seg ring cur size) = seg ∧ ringOf (wordAC seg ring cur size) = ring ∧
      cursorOf (wordAC seg ring cur size) = some cur ∧ field (wordAC seg ring cur size) 24 4 = size := by
  have hseg := seg.isLt
  have hr := ring.isLt
  have hc := cur.isLt
  have fields : field (wordAC seg ring cur size) 0 9 = seg ∧ field (wordAC seg ring cur size) 9 2 = ring := by
    rw [wordAC, field_word _ (by decide), field_word _ (by decide)]
    omega
  refine ⟨?_, ?_, cursorOf_of_field ?_, ?_⟩
  · rw [segOf, fields.1, ofNat_val]
  · rw [ringOf, fields.2, ofNat_val]
  · rw [wordAC, field_word _ (by decide)]
    omega
  · rw [wordAC, field_word _ (by decide)]
    omega

end

/-! ## The layouts of the management operands -/

section
variable {idx : Nat} (hi : idx < 256) {f : SourceFields} (fits : f.limit < 16)
include hi fits

theorem fields_sourceWord : field (sourceWord idx f 0) 0 8 = idx ∧ field (sourceWord idx f 0) 8 1 = bitNat f.valid ∧
    field (sourceWord idx f 0) 9 2 = f.port.code ∧ field (sourceWord idx f 0) 11 2 = f.ring ∧
    field (sourceWord idx f 0) 13 1 = bitNat f.manager ∧ field (sourceWord idx f 0) 14 1 = bitNat f.alertTarget ∧
    field (sourceWord idx f 0) 16 4 = f.limit := by
  have valid := bitNat_lt f.valid
  have port := portCode_lt f.port
  have ring := f.ring.isLt
  have manager := bitNat_lt f.manager
  have target := bitNat_lt f.alertTarget
  rw [sourceWord]
  refine ⟨?_, ?_, ?_, ?_, ?_, ?_, ?_⟩
  all_goals
    rw [field_word _ (by decide)]
    omega

theorem sourceFieldsOf_sourceWord : sourceFieldsOf (sourceWord idx f 0) = f := by
  obtain ⟨-, valid, port, ring, manager, target, limit⟩ := fields_sourceWord hi fits
  rw [sourceFieldsOf, flagBit_of_field valid, port, ofCode_portCode, ring, ofNat_val, flagBit_of_field manager,
    flagBit_of_field target, limit]

end

section
variable {seg : Nat} (hs : seg < 1024) {d : SegOperands} (fits : d.fits = true)
include hs fits

theorem fields_segmentWord : field (segmentWord seg d) 0 10 = seg ∧ field (segmentWord seg d) 12 2 = d.kind.code ∧
    field (segmentWord seg d) 16 4 = d.region ∧ field (segmentWord seg d) 20 2 = d.readBracket ∧
    field (segmentWord seg d) 22 2 = d.writeBracket ∧
    field (segmentWord seg d) 24 1 = bitNat d.order.isInterchange ∧ field (segmentWord seg d) 25 5 = d.block := by
  simp only [SegOperands.fits, Bool.and_eq_true, decide_eq_true_eq] at fits
  have kind := segKindCode_lt d.kind
  have read := d.readBracket.isLt
  have write := d.writeBracket.isLt
  have order := bitNat_lt d.order.isInterchange
  rw [segmentWord]
  refine ⟨?_, ?_, ?_, ?_, ?_, ?_, ?_⟩
  all_goals
    rw [field_word _ (by decide)]
    omega

theorem segOperandsOf_words : segOperandsOf (segmentWord seg d) (word d.base) (word d.limit) = d := by
  obtain ⟨-, kind, region, read, write, order, block⟩ := fields_segmentWord hs fits
  simp only [SegOperands.fits, Bool.and_eq_true, decide_eq_true_eq] at fits
  rw [segOperandsOf, kind, ofCode_segKindCode, region, read, ofNat_val, write, ofNat_val, flagBit_of_field order,
    ofBool_isInterchange, block, field_word_of_lt (by decide) (by omega), field_word_of_lt (by decide) (by omega)]

end

theorem clockOf_word {g : ClockGroup} (fits : g.fits = true) : clockOf (word (clockNat g)) = g := by
  simp only [ClockGroup.fits, decide_eq_true_eq] at fits
  have sync := bitNat_lt g.sync
  have wide := bitNat_lt g.wide
  have lane := bitNat_lt g.parityLane
  have fields : field (word (clockNat g)) 0 1 = bitNat g.sync ∧ field (word (clockNat g)) 1 1 = bitNat g.wide ∧
      field (word (clockNat g)) 4 4 = g.divider ∧ field (word (clockNat g)) 8 1 = bitNat g.parityLane := by
    rw [clockNat]
    refine ⟨?_, ?_, ?_, ?_⟩
    all_goals
      rw [field_word _ (by decide)]
      omega
  obtain ⟨hs, hw, hd, hp⟩ := fields
  rw [clockOf, flagBit_of_field hs, flagBit_of_field hw, hd, flagBit_of_field hp]

theorem timingOf_words {g : TimingGroup} (fits : g.fits = true) : timingOf (timingWord2 g) (timingWord3 g) = g := by
  simp only [TimingGroup.fits, Bool.and_eq_true, decide_eq_true_eq] at fits
  have wrap := bitNat_lt g.nativeWrap
  have monitor := bitNat_lt g.monitor
  have fields : field (timingWord2 g) 0 5 = g.burst ∧ field (timingWord2 g) 5 1 = bitNat g.nativeWrap ∧
      field (timingWord2 g) 8 11 = g.page ∧ field (timingWord2 g) 20 5 = g.first ∧ field (timingWord2 g) 25 4 = g.hit ∧
      field (timingWord3 g) 0 1 = bitNat g.monitor ∧ field (timingWord3 g) 4 12 = g.readyLimit := by
    rw [timingWord2, timingWord3]
    refine ⟨?_, ?_, ?_, ?_, ?_, ?_, ?_⟩
    all_goals
      rw [field_word _ (by decide)]
      omega
  obtain ⟨hb, hw, hp, hf, hh, hm, hr⟩ := fields
  rw [timingOf, hb, flagBit_of_field hw, hp, hf, hh, flagBit_of_field hm, hr]

theorem fields_actionWord {action low : Nat} (ha : action < 8) (hl : low < 512) :
    field (actionWord action low 0) 0 3 = action ∧ field (actionWord action low 0) 0 2 = action % 4 ∧
      field (actionWord action low 0) 8 8 = low % 256 ∧ field (actionWord action low 0) 8 9 = low := by
  rw [actionWord]
  refine ⟨?_, ?_, ?_, ?_⟩
  all_goals
    rw [field_word _ (by decide)]
    omega

theorem fields_portActionWord {action low high : Nat} (ha : action < 4) (hl : low < 16) (hh : high < 16) :
    field (actionWord action low high) 0 2 = action ∧ field (actionWord action low high) 8 4 = low ∧
      field (actionWord action low high) 12 4 = high := by
  rw [actionWord]
  refine ⟨?_, ?_, ?_⟩
  all_goals
    rw [field_word _ (by decide)]
    omega

theorem ofNat_toNat_mod {n : Nat} (m : BitVec n) : BitVec.ofNat n m.toNat = m := by
  rw [BitVec.ofNat_toNat, BitVec.setWidth_eq]

/-! ## The rows of the data requests -/

section
variable (p : Port) (h : Hdr)

theorem decodeRead_frame (seg : SegNo) (ring : Ring) {off len : Nat} (ho : off < 16777216) (pos : 1 ≤ len) (fit : len ≤ 64) :
    decodeRead p h [wordA seg ring len, word off] = some (.read p h seg ring off len) := by
  obtain ⟨hs, hr, hl⟩ := operands_wordA seg ring (len := len) (by omega)
  rw [decodeRead, hs, hr, hl, if_pos ⟨pos, fit⟩, field_word_of_lt (by decide) ho]

theorem decodeWrite_frame (seg : SegNo) (ring : Ring) {off len : Nat} {pl : List Word} (ho : off < 16777216) (pos : 1 ≤ len)
    (fit : len ≤ 64) (hp : pl.length = len) :
    decodeWrite p h (wordA seg ring len :: word off :: pl) = some (.write p h seg ring off len pl) := by
  obtain ⟨hs, hr, hl⟩ := operands_wordA seg ring (len := len) (by omega)
  rw [decodeWrite, hs, hr, hl, if_pos ⟨pos, fit, hp⟩, field_word_of_lt (by decide) ho]

theorem decodeCompareSwap_frame (seg : SegNo) (ring : Ring) {off : Nat} (e n : Word) (ho : off < 16777216) :
    decodeCompareSwap p h [wordA seg ring 0, word off, e, n] = some (.compareSwap p h seg ring off e n) := by
  obtain ⟨hs, hr, -⟩ := operands_wordA seg ring (len := 0) (by decide)
  rw [decodeCompareSwap, hs, hr, field_word_of_lt (by decide) ho]

theorem decodeAppend_frame (seg : SegNo) (ring : Ring) {pl : List Word} (pos : 1 ≤ pl.length) (fit : pl.length ≤ 60) :
    decodeAppend p h (wordA seg ring 0 :: pl) = some (.append p h seg ring pl) := by
  obtain ⟨hs, hr, -⟩ := operands_wordA seg ring (len := 0) (by decide)
  rw [decodeAppend, hs, hr, if_pos ⟨pos, fit⟩]

theorem decodeJournalRestart_frame (seg : SegNo) (ring : Ring) {f : Nat} (hf : f < 16777216) :
    decodeJournalRestart p h [wordA seg ring 0, word f] = some (.journalRestart p h seg ring f) := by
  obtain ⟨hs, hr, -⟩ := operands_wordA seg ring (len := 0) (by decide)
  rw [decodeJournalRestart, hs, hr, field_word_of_lt (by decide) hf]

theorem decodeData_cursorSet (body : List Word) : decodeData p h 8 body = decodeCursorSet p h body := rfl

theorem decodeCursorSet_frame (seg : SegNo) (ring : Ring) (cur : Fin 2) {pos count size : Nat} (hp : pos < 8388608)
    (hc : count < 65536) (hs : isItemSize size = true) :
    decodeCursorSet p h [wordAC seg ring cur size, word pos, word count] =
      some (.cursorSet p h cur seg ring pos count size) := by
  have small : size < 16 := by
    simp only [isItemSize, Bool.or_eq_true, beq_iff_eq] at hs
    omega
  obtain ⟨hseg, hr, hcur, hsize⟩ := operands_wordAC seg ring cur small
  rw [decodeCursorSet, hsize, if_pos hs, hcur, Option.map_some, hseg, hr, field_word_of_lt (by decide) hp,
    field_word_of_lt (by decide) hc]

theorem decodeCursorRead_frame (cur : Fin 2) : decodeCursorRead p h [wordC cur] = some (.cursorRead p h cur) := by
  rw [decodeCursorRead, cursorOf_wordC, Option.map_some]

theorem decodeCursorWrite_frame (cur : Fin 2) (lo hi : Word) :
    decodeCursorWrite p h [wordC cur, lo, hi] = some (.cursorWrite p h cur lo hi) := by
  rw [decodeCursorWrite, cursorOf_wordC, Option.map_some]

theorem decodeCursorQuery_frame (cur : Fin 2) : decodeCursorQuery p h [wordC cur] = some (.cursorQuery p h cur) := by
  rw [decodeCursorQuery, cursorOf_wordC, Option.map_some]

/-! ## The rows of the management requests -/

theorem decodeManage_sourceWrite {idx : Nat} {f : SourceFields} (hi : idx < 256) (fits : f.limit < 16) :
    decodeManage p h 1 [sourceWord idx f 0] = some (.sourceWrite p h idx f) := by
  rw [decodeManage, sourceFieldsOf_sourceWord hi fits, (fields_sourceWord hi fits).1]

theorem decodeManage_sourceRead {idx : Nat} (hi : idx < 256) : decodeManage p h 2 [word idx] = some (.sourceRead p h idx) := by
  rw [decodeManage, field_word_of_lt (by decide) hi]

theorem decodeManage_segmentWrite {seg : Nat} {d : SegOperands} (hs : seg < 1024) (fits : d.fits = true) :
    decodeManage p h 3 [segmentWord seg d, word d.base, word d.limit] = some (.segmentWrite p h seg d) := by
  rw [decodeManage, segOperandsOf_words hs fits, (fields_segmentWord hs fits).1]

theorem decodeManage_segmentRead {seg : Nat} (hs : seg < 1024) : decodeManage p h 4 [word seg] = some (.segmentRead p h seg) := by
  rw [decodeManage, field_word_of_lt (by decide) hs]

/-- The first PROFILE_WRITE word carries the region and the group. -/
theorem fields_profileWord {r group : Nat} (hr : r < 16) (hg : group < 4) :
    field (word (r + group * 16)) 0 4 = r ∧ field (word (r + group * 16)) 4 2 = group := by
  rw [field_word _ (by decide), field_word _ (by decide)]
  omega

theorem decodeProfileWrite_clock {r : Nat} {g : ClockGroup} (hr : r < 16) (fits : g.fits = true) :
    decodeProfileWrite p h [word r, word (clockNat g)] = some (.profileWriteClock p h r g) := by
  obtain ⟨region, group⟩ := fields_profileWord hr (group := 0) (by decide)
  rw [Nat.zero_mul, Nat.add_zero] at region group
  rw [decodeProfileWrite, region, group, if_pos rfl, clockOf_word fits]

theorem decodeProfileWrite_timing {r : Nat} {g : TimingGroup} (hr : r < 16) (fits : g.fits = true) :
    decodeProfileWrite p h [word (r + 16), timingWord2 g, timingWord3 g] = some (.profileWriteTiming p h r g) := by
  obtain ⟨region, group⟩ := fields_profileWord hr (group := 1) (by decide)
  rw [Nat.one_mul] at region group
  rw [decodeProfileWrite, region, group, if_pos rfl, timingOf_words fits]

theorem decodeProfileWrite_patrol {r : Nat} {g : PatrolGroup} (hr : r < 16) (fits : g.fits = true) :
    decodeProfileWrite p h (word (r + 32) :: patrolWords g) = some (.profileWritePatrol p h r g) := by
  simp only [PatrolGroup.fits, decide_eq_true_eq] at fits
  obtain ⟨region, group⟩ := fields_profileWord hr (group := 2) (by decide)
  have enable : field (word (bitNat g.enable)) 0 1 = bitNat g.enable :=
    field_word_of_lt (by decide) (bitNat_lt g.enable)
  have pattern : g.pattern = #v[g.pattern[0], g.pattern[1], g.pattern[2], g.pattern[3]] := by
    ext i hi
    interval_cases i <;> rfl
  have words : patrolWords g =
      [word (bitNat g.enable), word g.addr, g.pattern[0], g.pattern[1], g.pattern[2], g.pattern[3]] := by
    rw [patrolWords, toList_eq_map_finRange]
    rfl
  have patrol : patrolOf (word (bitNat g.enable)) (word g.addr) g.pattern[0] g.pattern[1] g.pattern[2] g.pattern[3] = g := by
    rw [patrolOf, flagBit_of_field enable, field_word_of_lt (by decide) fits, ← pattern]
  rw [words, decodeProfileWrite, region, group, if_pos rfl, patrol]

theorem decodeManage_profileRead {r : Nat} (hr : r < 16) : decodeManage p h 6 [word r] = some (.profileRead p h r) := by
  rw [decodeManage, field_word_of_lt (by decide) hr]

theorem decodeRegionCommand_frame (m : BitVec 8) :
    decodeRegionCommand p h [actionWord 0 m.toNat 0] = some (.regionCommandOnline p h m) ∧
      decodeRegionCommand p h [actionWord 1 m.toNat 0] = some (.regionCommandOffline p h m) ∧
      decodeRegionCommand p h [actionWord 2 m.toNat 0] = some (.regionCommandPark p h m) ∧
      decodeRegionCommand p h [actionWord 3 m.toNat 0] = some (.regionCommandUnpark p h m) ∧
      decodeRegionCommand p h [actionWord 4 m.toNat 0] = some (.regionCommandTrain p h m) := by
  have low := m.isLt
  have fields {k : Nat} (hk : k < 8) : field (actionWord k m.toNat 0) 0 3 = k ∧
      BitVec.ofNat 8 (field (actionWord k m.toNat 0) 8 8) = m := by
    obtain ⟨action, -, mask, -⟩ := fields_actionWord hk (low := m.toNat) (by omega)
    rw [mask, Nat.mod_eq_of_lt low]
    exact ⟨action, ofNat_toNat_mod m⟩
  have action {k : Nat} (hk : k < 8) := (fields hk).1
  have mask {k : Nat} (hk : k < 8) := (fields hk).2
  simp only [decodeRegionCommand, action, mask, Nat.reduceLT, and_self]

theorem decodePortControl_frame (rx tx : BitVec 4) :
    decodePortControl p h [actionWord 0 rx.toNat tx.toNat] = some (.portControlEnable p h rx tx) ∧
      decodePortControl p h [actionWord 1 rx.toNat tx.toNat] = some (.portControlDisable p h rx tx) := by
  have fields {k : Nat} (hk : k < 4) := fields_portActionWord hk rx.isLt tx.isLt
  have action {k : Nat} (hk : k < 4) := (fields hk).1
  have low {k : Nat} (hk : k < 4) := (fields hk).2.1
  have high {k : Nat} (hk : k < 4) := (fields hk).2.2
  simp only [decodePortControl, action, low, high, ofNat_toNat_mod, Nat.reduceLT, and_self]

theorem decodeCheckControl_frame {checks : Nat} (hc : checks < 8) :
    decodeCheckControl p h [word 0] = some (.checkControlEnable p h) ∧
      decodeCheckControl p h [word 1] = some (.checkControlDisable p h) ∧
      decodeCheckControl p h [word (2 + checks * 16)] = some (.checkControlInject p h checks) := by
  have fields : field (word (2 + checks * 16)) 0 2 = 2 ∧ field (word (2 + checks * 16)) 4 3 = checks := by
    rw [field_word _ (by decide), field_word _ (by decide)]
    omega
  obtain ⟨action, named⟩ := fields
  refine ⟨rfl, rfl, ?_⟩
  simp only [decodeCheckControl, action, named]

theorem decodeAlertControl_frame (kinds : BitVec 9) :
    decodeAlertControl p h [actionWord 0 kinds.toNat 0] = some (.alertControlEnable p h kinds) ∧
      decodeAlertControl p h [actionWord 1 kinds.toNat 0] = some (.alertControlDisable p h kinds) := by
  obtain ⟨-, enable, -, mask⟩ := fields_actionWord (action := 0) (by decide) kinds.isLt
  obtain ⟨-, disable, -, mask'⟩ := fields_actionWord (action := 1) (by decide) kinds.isLt
  simp only [decodeAlertControl, enable, disable, mask, mask', ofNat_toNat_mod, Nat.zero_mod, Nat.reduceMod, and_self]

theorem decodeManage_patrolSet {v : Nat} (hv : v < 1024) : decodeManage p h 10 [word v] = some (.patrolSet p h v) := by
  rw [decodeManage, field_word_of_lt (by decide) hv]

theorem decodeManage_alertClear (m : BitVec 64) :
    decodeManage p h 13 [m.extractLsb' 0 32, m.extractLsb' 32 32] = some (.alertClear p h m) := by
  have low : (m.extractLsb' 0 32).toNat = m.toNat % 4294967296 := by simp
  have high : (m.extractLsb' 32 32).toNat = m.toNat / 4294967296 % 4294967296 := by simp [Nat.shiftRight_eq_div_pow]
  have whole : (m.extractLsb' 0 32).toNat + (m.extractLsb' 32 32).toNat * 4294967296 = m.toNat := by
    have := m.isLt
    omega
  rw [decodeManage, whole, ofNat_toNat_mod]

/-! ## Every request -/

/-- Settles O60: each request is read back from its own frame. -/
theorem decodeOfEncode : Obligations.DecodeOfEncode := by
  intro c q ws wf request words
  have taken : TakesFrame c q.port ws := by
    cases c
    all_goals
      simp only [Instr.request, frameWords, reduceCtorEq, Option.some.injEq] at request words
    all_goals
      subst request words
      simp only [Instr.wf, SourceFields.fits, Bool.and_eq_true, decide_eq_true_eq] at wf
    case read p h seg ring off len =>
      obtain ⟨⟨off, pos⟩, fit⟩ := wf
      exact takesFrame_data (by decide) (by simp) (by simp) (decodeRead_frame p h seg ring off pos fit)
    case write p h seg ring off len pl =>
      obtain ⟨⟨⟨off, pos⟩, fit⟩, length⟩ := wf
      exact takesFrame_data (by decide) (by simp) (by simp; omega) (decodeWrite_frame p h seg ring off pos fit length)
    case compareSwap p h seg ring off e n =>
      exact takesFrame_data (by decide) (by simp) (by simp) (decodeCompareSwap_frame p h seg ring e n wf)
    case append p h seg ring pl =>
      obtain ⟨pos, fit⟩ := wf
      exact takesFrame_data (by decide) (by simp) (by simp; omega) (decodeAppend_frame p h seg ring pos fit)
    case journalRestart p h seg ring f =>
      exact takesFrame_data (by decide) (by simp) (by simp) (decodeJournalRestart_frame p h seg ring wf)
    case cursorSet p h cur seg ring pos count size =>
      obtain ⟨⟨hp, hc⟩, hs⟩ := wf
      have row := (decodeData_cursorSet p h _).trans (decodeCursorSet_frame p h seg ring cur hp hc hs)
      exact takesFrame_data (by decide) (by simp) (by simp) row
    case cursorRead p h cur =>
      exact takesFrame_data (by decide) (by simp) (by simp) (decodeCursorRead_frame p h cur)
    case cursorWrite p h cur lo hi =>
      exact takesFrame_data (by decide) (by simp) (by simp) (decodeCursorWrite_frame p h cur lo hi)
    case cursorQuery p h cur =>
      exact takesFrame_data (by decide) (by simp) (by simp) (decodeCursorQuery_frame p h cur)
    case profileWritePatrol p h r g =>
      exact takesFrame_manage (by decide) (by simp) (by simp [patrolWords]) (decodeProfileWrite_patrol p h wf.1 wf.2)
    all_goals refine takesFrame_manage (by decide) (by simp) (by simp) ?_
    case sourceWrite p h idx f => exact decodeManage_sourceWrite p h wf.1 wf.2
    case sourceRead p h idx => exact decodeManage_sourceRead p h wf
    case segmentWrite p h seg d => exact decodeManage_segmentWrite p h wf.1 wf.2
    case segmentRead p h seg => exact decodeManage_segmentRead p h wf
    case profileWriteClock p h r g => exact decodeProfileWrite_clock p h wf.1 wf.2
    case profileWriteTiming p h r g => exact decodeProfileWrite_timing p h wf.1 wf.2
    case profileRead p h r => exact decodeManage_profileRead p h wf
    case patrolSet p h v => exact decodeManage_patrolSet p h wf
    case alertClear p h m => exact decodeManage_alertClear p h m
    case statusRead | start | softReset | clearContainment => rfl
    case regionCommandOnline p h m => exact (decodeRegionCommand_frame p h m).1
    case regionCommandOffline p h m => exact (decodeRegionCommand_frame p h m).2.1
    case regionCommandPark p h m => exact (decodeRegionCommand_frame p h m).2.2.1
    case regionCommandUnpark p h m => exact (decodeRegionCommand_frame p h m).2.2.2.1
    case regionCommandTrain p h m => exact (decodeRegionCommand_frame p h m).2.2.2.2
    case portControlEnable p h rx tx => exact (decodePortControl_frame p h rx tx).1
    case portControlDisable p h rx tx => exact (decodePortControl_frame p h rx tx).2
    case checkControlEnable | checkControlDisable => rfl
    case checkControlInject p h checks => exact (decodeCheckControl_frame p h wf).2.2
    case alertControlEnable p h kinds => exact (decodeAlertControl_frame p h kinds).1
    case alertControlDisable p h kinds => exact (decodeAlertControl_frame p h kinds).2
  exact taken

end

end Sys2Proof.Machine

/-!
The frames that admission check 1 fails (R21, R153, R160, R161): for each row of Table 12-2 the word counts and fields with which
the decoder takes it.
-/

namespace Sys2Proof.Machine

section
variable (p : Port) (h : Hdr) (a : Word) (l : List Word)

/-! ## The rows of the data requests -/

theorem decodeRead_isSome :
    (decodeRead p h (a :: l)).isSome = true ↔ l.length = 1 ∧ 1 ≤ lenOf a ∧ lenOf a ≤ 64 := by
  match l with
  | [] | [_] | _ :: _ :: _ => simp [decodeRead]

theorem decodeWrite_isSome :
    (decodeWrite p h (a :: l)).isSome = true ↔ l.length = 1 + lenOf a ∧ 1 ≤ lenOf a ∧ lenOf a ≤ 64 := by
  match l with
  | [] =>
    simp [decodeWrite]
    omega
  | o :: pl =>
    simp [decodeWrite]
    omega

theorem decodeCompareSwap_isSome : (decodeCompareSwap p h (a :: l)).isSome = true ↔ l.length = 3 := by
  match l with
  | [] | [_] | [_, _] | [_, _, _] | _ :: _ :: _ :: _ :: _ => simp [decodeCompareSwap]

theorem decodeAppend_isSome : (decodeAppend p h (a :: l)).isSome = true ↔ 1 ≤ l.length ∧ l.length ≤ 60 := by
  simp [decodeAppend]

theorem decodeJournalRestart_isSome : (decodeJournalRestart p h (a :: l)).isSome = true ↔ l.length = 1 := by
  match l with
  | [] | [_] | _ :: _ :: _ => simp [decodeJournalRestart]

theorem cursorOf_isSome : (cursorOf a).isSome = true ↔ field a 12 2 < 2 := by
  unfold cursorOf
  split
  case isTrue hc => simp [hc]
  case isFalse hc => simp [hc]

theorem decodeCursorSet_isSome :
    (decodeCursorSet p h (a :: l)).isSome = true ↔ l.length = 2 ∧ field a 12 2 < 2 ∧ isItemSize (field a 24 4) = true := by
  match l with
  | [] | [_] | _ :: _ :: _ :: _ => simp [decodeCursorSet]
  | [_, _] =>
    by_cases hs : isItemSize (field a 24 4) = true
    · simp [decodeCursorSet, cursorOf_isSome, hs]
    · simp [decodeCursorSet, hs]

theorem decodeCursorRead_isSome : (decodeCursorRead p h (a :: l)).isSome = true ↔ l.length = 0 ∧ field a 12 2 < 2 := by
  match l with
  | [] => simp [decodeCursorRead, cursorOf_isSome]
  | _ :: _ => simp [decodeCursorRead]

theorem decodeCursorWrite_isSome : (decodeCursorWrite p h (a :: l)).isSome = true ↔ l.length = 2 ∧ field a 12 2 < 2 := by
  match l with
  | [] | [_] | _ :: _ :: _ :: _ => simp [decodeCursorWrite]
  | [_, _] => simp [decodeCursorWrite, cursorOf_isSome]

theorem decodeCursorQuery_isSome : (decodeCursorQuery p h (a :: l)).isSome = true ↔ l.length = 0 ∧ field a 12 2 < 2 := by
  match l with
  | [] => simp [decodeCursorQuery, cursorOf_isSome]
  | _ :: _ => simp [decodeCursorQuery]

/-! ## The rows of the management requests -/

theorem decodeProfileWrite_isSome : (decodeProfileWrite p h (a :: l)).isSome = true ↔
    field a 4 2 = 0 ∧ l.length = 1 ∨ field a 4 2 = 1 ∧ l.length = 2 ∨ field a 4 2 = 2 ∧ l.length = 6 := by
  match l with
  | [] | [_] | [_, _] | [_, _, _] | [_, _, _, _] | [_, _, _, _, _] | [_, _, _, _, _, _] | _ :: _ :: _ :: _ :: _ :: _ :: _ :: _ =>
    simp [decodeProfileWrite]

theorem decodeRegionCommand_isSome :
    (decodeRegionCommand p h (a :: l)).isSome = true ↔ l.length = 0 ∧ field a 0 3 ≤ 4 := by
  match l with
  | [] =>
    dsimp only [decodeRegionCommand]
    match field a 0 3 with
    | 0 | 1 | 2 | 3 | 4 => simp
    | n + 5 => simp
  | _ :: _ => simp [decodeRegionCommand]

theorem decodePortControl_isSome :
    (decodePortControl p h (a :: l)).isSome = true ↔ l.length = 0 ∧ field a 0 2 ≤ 1 := by
  match l with
  | [] =>
    dsimp only [decodePortControl]
    match field a 0 2 with
    | 0 | 1 => simp
    | n + 2 => simp
  | _ :: _ => simp [decodePortControl]

theorem decodeCheckControl_isSome :
    (decodeCheckControl p h (a :: l)).isSome = true ↔ l.length = 0 ∧ field a 0 2 ≤ 2 := by
  match l with
  | [] =>
    dsimp only [decodeCheckControl]
    match field a 0 2 with
    | 0 | 1 | 2 => simp
    | n + 3 => simp
  | _ :: _ => simp [decodeCheckControl]

theorem decodeAlertControl_isSome :
    (decodeAlertControl p h (a :: l)).isSome = true ↔ l.length = 0 ∧ field a 0 2 ≤ 1 := by
  match l with
  | [] =>
    dsimp only [decodeAlertControl]
    match field a 0 2 with
    | 0 | 1 => simp
    | n + 2 => simp
  | _ :: _ => simp [decodeAlertControl]

/-- The management requests of one operand word in which no field names a row. -/
theorem decodeManage_isSome_word {code : Nat} (hc : code ∈ [1, 2, 4, 6, 10, 11, 14, 15, 16]) :
    (decodeManage p h code (a :: l)).isSome = true ↔ l.length = 0 := by
  simp only [List.mem_cons, List.not_mem_nil, or_false] at hc
  obtain rfl | rfl | rfl | rfl | rfl | rfl | rfl | rfl | rfl := hc
  all_goals
    match l with
    | [] => simp [decodeManage]
    | _ :: _ => simp [decodeManage]

theorem decodeManage_isSome_segmentWrite : (decodeManage p h 3 (a :: l)).isSome = true ↔ l.length = 2 := by
  match l with
  | [] | [_] | [_, _] | _ :: _ :: _ :: _ => simp [decodeManage]

theorem decodeManage_isSome_alertClear : (decodeManage p h 13 (a :: l)).isSome = true ↔ l.length = 1 := by
  match l with
  | [] | [_] | _ :: _ :: _ => simp [decodeManage]

end

end Sys2Proof.Machine

/-!
The acceptance of a frame that no row takes (R21, R153): which frames those are, and how they are answered.
-/

namespace Sys2Proof.Machine

/-! ## Decoded frames are requests -/

section
variable (p : Port) (h : Hdr) (body : List Word)

theorem all_map_cursorOf {f : Fin 2 → Instr} (hf : ∀ k, (f k).request.isSome = true) (a : Word) :
    ((cursorOf a).map f).all (·.request.isSome) = true := by
  cases cursorOf a with
  | none => rfl
  | some k => exact hf k

theorem request_decodeData (code : Nat) : (decodeData p h code body).all (·.request.isSome) = true := by
  unfold decodeData
  split
  case h_1 => unfold decodeRead; (repeat' split) <;> rfl
  case h_2 => unfold decodeWrite; (repeat' split) <;> rfl
  case h_3 => unfold decodeCompareSwap; split <;> rfl
  case h_4 => unfold decodeAppend; (repeat' split) <;> rfl
  case h_5 => unfold decodeJournalRestart; split <;> rfl
  case h_6 =>
    unfold decodeCursorSet
    repeat' split
    · exact all_map_cursorOf (fun _ => rfl) _
    all_goals rfl
  case h_7 =>
    unfold decodeCursorRead
    split
    · exact all_map_cursorOf (fun _ => rfl) _
    · rfl
  case h_8 =>
    unfold decodeCursorWrite
    split
    · exact all_map_cursorOf (fun _ => rfl) _
    · rfl
  case h_9 =>
    unfold decodeCursorQuery
    split
    · exact all_map_cursorOf (fun _ => rfl) _
    · rfl
  case h_10 => rfl

theorem request_decodeManage (code : Nat) : (decodeManage p h code body).all (·.request.isSome) = true := by
  unfold decodeManage
  split
  case h_5 => unfold decodeProfileWrite; (repeat' split) <;> rfl
  case h_7 => unfold decodeRegionCommand; (repeat' split) <;> rfl
  case h_8 => unfold decodePortControl; (repeat' split) <;> rfl
  case h_9 => unfold decodeCheckControl; (repeat' split) <;> rfl
  case h_12 => unfold decodeAlertControl; (repeat' split) <;> rfl
  all_goals rfl

end

/-- A decoder's answer is the row of undecodable frames exactly where it has none of its own. -/
theorem getD_undecodableFrame_iff {o : Option Instr} (requests : o.all (·.request.isSome) = true) (p : Port)
    (ws : List Word) : o.getD (.undecodableFrame p ws) = .undecodableFrame p ws ↔ ¬o.isSome = true := by
  cases o with
  | none => simp
  | some c =>
    refine ⟨fun e => ?_, fun e => absurd rfl e⟩
    rw [Option.getD_some] at e
    subst e
    cases requests

section
variable (p : Port) (ws : List Word)

theorem frameInstr_undecodable_iff : frameInstr p ws = .undecodableFrame p ws ↔
    ¬(frameClass (ws.headD 0) = 0 ∧
        (decodeData p (frameHdr (ws.headD 0)) (frameCode (ws.headD 0)) (frameBody ws)).isSome = true) ∧
      ¬(frameClass (ws.headD 0) = 1 ∧
        (decodeManage p (frameHdr (ws.headD 0)) (frameCode (ws.headD 0)) (frameBody ws)).isSome = true) := by
  rw [frameInstr]
  match hc : frameClass (ws.headD 0) with
  | 0 => simpa using getD_undecodableFrame_iff (request_decodeData p _ _ _) p ws
  | 1 => simpa using getD_undecodableFrame_iff (request_decodeManage p _ _ _) p ws
  | n + 2 => simp

end

/-! ## Which frames a row takes -/

/-- A row names the action code of the operand word `a` (Table 12-8). -/
def ListedAction (code : Nat) (a : Word) : Prop :=
  code = 7 ∧ field a 0 3 ≤ 4 ∨ (code = 8 ∨ code = 12) ∧ field a 0 2 ≤ 1 ∨ code = 9 ∧ field a 0 2 ≤ 2

section
variable (p : Port) (h : Hdr) (a : Word) (l : List Word)

theorem decodeData_isSome (code : Nat) : (decodeData p h code (a :: l)).isSome = true ↔
    code = 1 ∧ l.length = 1 ∧ 1 ≤ lenOf a ∧ lenOf a ≤ 64 ∨ code = 2 ∧ l.length = 1 + lenOf a ∧ 1 ≤ lenOf a ∧ lenOf a ≤ 64 ∨
    code = 3 ∧ l.length = 3 ∨ code = 4 ∧ 1 ≤ l.length ∧ l.length ≤ 60 ∨ code = 5 ∧ l.length = 1 ∨
    code = 8 ∧ l.length = 2 ∧ field a 12 2 < 2 ∧ isItemSize (field a 24 4) = true ∨
    (code = 9 ∨ code = 11) ∧ l.length = 0 ∧ field a 12 2 < 2 ∨ code = 10 ∧ l.length = 2 ∧ field a 12 2 < 2 := by
  match code with
  | 0 | 6 | 7 => simp [decodeData]
  | 1 => simpa [decodeData] using decodeRead_isSome p h a l
  | 2 => simpa [decodeData] using decodeWrite_isSome p h a l
  | 3 => simpa [decodeData] using decodeCompareSwap_isSome p h a l
  | 4 => simpa [decodeData] using decodeAppend_isSome p h a l
  | 5 => simpa [decodeData] using decodeJournalRestart_isSome p h a l
  | 8 => simpa [decodeData] using decodeCursorSet_isSome p h a l
  | 9 => simpa [decodeData] using decodeCursorRead_isSome p h a l
  | 10 => simpa [decodeData] using decodeCursorWrite_isSome p h a l
  | 11 => simpa [decodeData] using decodeCursorQuery_isSome p h a l
  | n + 12 => simp [decodeData]

theorem decodeManage_isSome (code : Nat) : (decodeManage p h code (a :: l)).isSome = true ↔
    code ∈ [1, 2, 4, 6, 10, 11, 14, 15, 16] ∧ l.length = 0 ∨ code = 3 ∧ l.length = 2 ∨ code = 13 ∧ l.length = 1 ∨
    ListedAction code a ∧ l.length = 0 ∨
    code = 5 ∧ (field a 4 2 = 0 ∧ l.length = 1 ∨ field a 4 2 = 1 ∧ l.length = 2 ∨ field a 4 2 = 2 ∧ l.length = 6) := by
  by_cases word : code ∈ [1, 2, 4, 6, 10, 11, 14, 15, 16]
  · rw [decodeManage_isSome_word p h a l word]
    simp only [List.mem_cons, List.not_mem_nil, or_false] at word
    obtain rfl | rfl | rfl | rfl | rfl | rfl | rfl | rfl | rfl := word
    all_goals simp [ListedAction]
  · unfold ListedAction
    match code with
    | 0 => simp [decodeManage]
    | 3 => simpa using decodeManage_isSome_segmentWrite p h a l
    | 5 => simpa [decodeManage] using decodeProfileWrite_isSome p h a l
    | 7 => simpa [decodeManage, and_comm] using decodeRegionCommand_isSome p h a l
    | 8 => simpa [decodeManage, and_comm] using decodePortControl_isSome p h a l
    | 9 => simpa [decodeManage, and_comm] using decodeCheckControl_isSome p h a l
    | 12 => simpa [decodeManage, and_comm] using decodeAlertControl_isSome p h a l
    | 13 => simpa using decodeManage_isSome_alertClear p h a l
    | n + 17 => simp [decodeManage]
    | 1 | 2 | 4 | 6 | 10 | 11 | 14 | 15 | 16 => simp at word

theorem unlistedAction_iff (code : Nat) : unlistedAction code (a :: l) = true ↔
    code = 5 ∧ field a 4 2 = 3 ∨
    (code = 7 ∨ code = 8 ∨ code = 9 ∨ code = 12) ∧ ¬ListedAction code a ∧ l.length = 0 := by
  unfold ListedAction
  match code, l with
  | 5, _ => simp [unlistedAction]
  | 7, [] | 8, [] | 9, [] | 12, [] =>
    simp [unlistedAction]
    omega
  | 7, _ :: _ | 8, _ :: _ | 9, _ :: _ | 12, _ :: _ => simp [unlistedAction]
  | 0, _ | 1, _ | 2, _ | 3, _ | 4, _ | 6, _ | 10, _ | 11, _ => simp [unlistedAction]
  | n + 13, _ => simp [unlistedAction]

end

/-- A frame of three words and more: its header, the first word of its body, the rest of that, and the check word. -/
theorem frame_parts {ws : List Word} (long : 3 ≤ ws.length) :
    ∃ a l, frameBody ws = a :: l ∧ ws.getD 1 0 = a ∧ l.length + 3 = ws.length := by
  match ws with
  | hd :: a :: b :: rest => exact ⟨a, (b :: rest).dropLast, rfl, rfl, by simp⟩

/-- Settles O7. -/
theorem undecodableFrameAnswered : Obligations.UndecodableFrameAnswered := by
  refine ⟨fun p ws long => ?_, fun p ws s next => ⟨fun listed => ?_, fun ⟨cls, unlisted⟩ admitted => ?_⟩⟩
  · obtain ⟨a, l, body, first, length⟩ := frame_parts long
    dsimp only
    rw [first]
    have cls : frameClass (ws.headD 0) = (ws.headD 0).toNat / 128 % 4 := rfl
    have code : frameCode (ws.headD 0) = (ws.headD 0).toNat / 512 % 32 := rfl
    have size : isItemSize (field a 24 4) = true ↔ a.toNat / 16777216 % 16 = 1 ∨ a.toNat / 16777216 % 16 = 2 ∨
        a.toNat / 16777216 % 16 = 4 ∨ a.toNat / 16777216 % 16 = 8 := by
      have bits : field a 24 4 = a.toNat / 16777216 % 16 := rfl
      simp [isItemSize, bits, or_assoc]
    have len : lenOf a = a.toNat / 65536 % 128 := rfl
    have index : field a 12 2 = a.toNat / 4096 % 4 := rfl
    have group : field a 4 2 = a.toNat / 16 % 4 := rfl
    have action : field a 0 3 = a.toNat % 8 := field_zero a 3
    have action' : field a 0 2 = a.toNat % 4 := field_zero a 2
    have words : ws.length - 2 = l.length + 1 := by omega
    rw [frameInstr_undecodable_iff, body, decodeData_isSome, decodeManage_isSome, unlistedAction_iff, cls, code,
      ListedAction, size, len, index, group, action, action', words]
    refine ⟨and_congr (not_congr (and_congr_right' ?_)) (not_congr (and_congr_right' ?_)), ?_⟩
    · exact or_congr (by omega) (or_congr (by omega) (or_congr (by omega) (or_congr (by omega) (or_congr (by omega)
        (or_congr (by omega) (or_congr (by omega) (by omega)))))))
    · refine or_congr (and_congr ?_ ?_) (or_congr (by omega) (or_congr (by omega) (or_congr (and_congr_right' ?_) ?_)))
      · simp
      all_goals omega
    · refine or_congr Iff.rfl (and_congr_right' (and_congr_right' ?_))
      omega
  · rw [exec_undecodableFrame, execUndecodableFrame]
    rw [accept_next _ _ next, if_neg (by simpa using listed)]
  · rw [exec_unlisted cls unlisted, accept_admitted admitted]

end Sys2Proof.Machine
